-- ==== Sys2Proof/Word.lean ====
section
/-! DEFINITION. The word types of the core: 16-bit registers and program words' addresses, 32-bit
words, 64-bit pairs, register numbers and condition codes (spec/10_state.md R20 to R22). -/

namespace Sys2Proof

/-- `short`: a 16-bit value, the contents of one `R[n]`, a program address or a data address. -/
abbrev Half := BitVec 16

/-- `long`, `float` and `X16`: a 32-bit value; also one word of program or data memory. -/
abbrev Long := BitVec 32

/-- `double`: a 64-bit value. -/
abbrev Dbl := BitVec 64

/-- One byte of a memory cell. -/
abbrev Byte := BitVec 8

/-- The number of a data register R0 to R31 (spec/30_encoding.md R117). -/
abbrev RegNo := BitVec 5

/-- The four-bit condition field `cc` (spec/30_encoding.md R120). -/
abbrev Cond := BitVec 4

end Sys2Proof
end

