-- ==== Sys2Proof/Syntax.lean ====
section
/-! DEFINITION. The instructions as syntax: the ALU operations, the data transfers, the forms an
operation can take (formats 1 to 8), the program-flow forms, and `Instr` with one constructor for
each mnemonic of spec/opcode_table.json. -/

namespace Sys2Proof

/-- The ALU operations of spec/30_encoding.md R126, R127, in the order of the manual, with NOP and
the four operations whose codes the source has lost or prints twice at the end. -/
inductive Op where
  | abs
  | absl
  | adc
  | adcl
  | adc16l
  | add
  | addl
  | addlr
  | addlrtr
  | addsub
  | addsubl
  | addsubx
  | addx
  | ad1
  | and
  | andc
  | andcl
  | andi
  | andl
  | ash
  | asl
  | asll
  | aslx
  | asr
  | asrl
  | asrle
  | asrx
  | btst
  | btstl
  | clr
  | clrl
  | cmp
  | cmpe
  | cmpl
  | cmpm
  | cmpml
  | cs2
  | cvef
  | cvfi
  | cvif
  | dec
  | decl
  | dispfx
  | dispx
  | eor
  | eorl
  | fadd
  | fas
  | fin
  | finr
  | fint
  | floor
  | fmpy
  | fsub
  | ftr
  | ftrfl
  | ftrl
  | ftst
  | inc
  | incl
  | insl
  | lsl
  | lsll
  | lslx
  | lsr
  | lsrl
  | lsrx
  | mac
  | macl
  | mmacx
  | mac2
  | max
  | maxl
  | maxm
  | maxml
  | min
  | minl
  | minm
  | minml
  | mpf
  | mpf2
  | mpss
  | mpuu
  | mpx
  | mskg
  | mskgl
  | neg
  | negl
  | not
  | notl
  | or
  | orc
  | orcl
  | ori
  | orl
  | pack
  | packl
  | pdn
  | pdne
  | pdnl
  | pdnle
  | pdnx
  | rndl
  | rol
  | roll
  | ror
  | rorl
  | sac2
  | sah
  | sbc
  | sbcl
  | smb
  | smbl
  | sub
  | subl
  | sublr
  | sublrtr
  | subx
  | swl
  | tr
  | trl
  | tst
  | tstl
  | tstx
  | nop
  | cvfe
  | mpf2s
  | mpyl
deriving DecidableEq, Repr, Inhabited

/-- A control register: any register outside the register file that a transfer can name
(spec/10_state.md R36). -/
inductive CReg where
  | a (n : BitVec 3)
  | m (n : BitVec 3)
  | atReg
  | pc
  | sp
  | ss
  | la
  | lc
  | cp
  | csl
  | csh
  | sr
  | dcsr
  | ccr
  | ac0
  | ac1
deriving DecidableEq, Repr, Inhabited

/-- The first operand of an operation: a register, or the unsigned five-bit immediate of the
shift-type operations (spec/30_encoding.md R118). -/
inductive Opnd where
  | reg (n : RegNo)
  | imm5 (k : BitVec 5)
deriving DecidableEq, Repr, Inhabited

/-- The transfer between data memory and `RL[2 * r]` (spec/47_move_to_notl.md R411): address
register, addressing mode, `u` bit and direction, `de = true` being a load (R122). -/
structure XferX where
  r : BitVec 4
  a : BitVec 3
  mode : BitVec 3
  u : Bool
  de : Bool
deriving DecidableEq, Repr, Inhabited

/-- The transfer between data registers, `l = true` for the 32-bit one
(spec/47_move_to_notl.md R413). -/
structure XferRR where
  rs : RegNo
  rd : RegNo
  l : Bool
deriving DecidableEq, Repr, Inhabited

/-- The transfer between a data register and a control register, `de = true` towards the register
file (spec/47_move_to_notl.md R414). -/
structure XferRC where
  r : RegNo
  sc : Bool
  rc : BitVec 5
  de : Bool
deriving DecidableEq, Repr, Inhabited

/-- The immediate transfer of format 7 (spec/47_move_to_notl.md R415): the bit `lsc` is `L` when
`sr` is false and `sc` when `sr` is true. -/
structure XferImm where
  rd : RegNo
  lsc : Bool
  sr : Bool
  imm : Long
deriving DecidableEq, Repr, Inhabited

/-- The transfers of the four sub-formats of format 8 (spec/30_encoding.md R116); `at2` is the
two-bit field `AT` of the Y transfer. -/
inductive Frame where
  | a (at2 : BitVec 2) (x : XferX)
  | b (at2 : BitVec 2) (x : XferRR)
  | c (cc : Cond) (rs rd : BitVec 4)
  | d (x : XferRC)
deriving DecidableEq, Repr, Inhabited

/-- The slot of format 8 an operation stands in (spec/30_encoding.md R124). -/
inductive SlotPos where
  | op1
  | op2
deriving DecidableEq, Repr, Inhabited

/-- The form of one ALU operation: its format and every field of that format
(spec/30_encoding.md R102 to R116). A field the operation does not use is 0. In `f8` the other slot
holds NOP; a pair of operations is one of the `frame8` constructors of `Instr`. -/
inductive Form where
  | f1 (cc : Cond) (s1 : Opnd) (s2 d : RegNo)
  | f2 (cc : Cond) (imm : Long) (s2 d : RegNo)
  | f3 (imm : Half) (d : RegNo)
  | f4 (s : Opnd) (d : RegNo) (x : XferX)
  | f5 (s : Opnd) (d : RegNo) (x : XferRR)
  | f6 (s : Opnd) (d : RegNo) (x : XferRC)
  | f7 (cc : Cond) (s d : RegNo) (x : XferImm)
  | f8 (slot : SlotPos) (m : Bool) (s1 : Opnd) (s2 d : RegNo) (fr : Frame)
deriving DecidableEq, Repr, Inhabited

/-- The OP1 operation of a format 8 instruction (spec/30_encoding.md R115). -/
structure Slot1 where
  op : Op
  m : Bool
  s1 : RegNo
  s2 : RegNo
  d : RegNo
deriving DecidableEq, Repr, Inhabited

/-- The OP2 operation of a format 8 instruction (spec/30_encoding.md R116). -/
structure Slot2 where
  op : Op
  s3 : Opnd
  s4 : RegNo
  d2 : RegNo
deriving DecidableEq, Repr, Inhabited

/-- The operand of a branch or jump: the immediate of format 3m or the address register of format
3mb (spec/30_encoding.md R107, R108). -/
inductive Target where
  | imm (v : Half)
  | areg (n : BitVec 3)
deriving DecidableEq, Repr, Inhabited

/-- MOVE as an instruction of its own (spec/47_move_to_notl.md R418): format 2t between data
registers and with a control register, format 6t, format 7t. -/
inductive MoveForm where
  | rr (cc : Cond) (x : XferRR)
  | rc (cc : Cond) (x : XferRC)
  | mem (cc : Cond) (x : XferX)
  | memImm (cc : Cond) (r : BitVec 4) (a : BitVec 3) (u : Bool) (de : Bool) (imm : Half)
deriving DecidableEq, Repr, Inhabited

/-- Why the decoder refuses a word (spec/30_encoding.md R128). -/
inductive DecodeError where
  /-- Format code 1111 in [10:7]. -/
  | formatUnused
  /-- An opcode that no line of R126 or R127 assigns. -/
  | opcodeUnassigned
  /-- An opcode in a format its page does not print. -/
  | formatNotPrinted
  /-- A bit that is 1 in a cell the tables print 0. -/
  | nonzeroCell
  /-- M = 1 for an operation without `[s]` (R121). -/
  | scalingNotOffered
  /-- An odd number in a long or double operand field (R117, U2). -/
  | oddRegister
  /-- `mode` = MODE_IMM in format 4 or 8a (U19). -/
  | modeImmediate
deriving DecidableEq, Repr, Inhabited

/-- The instructions, one constructor for each mnemonic of spec/opcode_table.json. -/
inductive Instr where
  /-- ABS: spec R200. -/
  | abs (f : Form)
  /-- ABSL: spec R201. -/
  | absl (f : Form)
  /-- ADC: spec R202. -/
  | adc (f : Form)
  /-- ADCL: spec R203. -/
  | adcl (f : Form)
  /-- ADC16L: spec R204. -/
  | adc16l (f : Form)
  /-- ADD: spec R205. -/
  | add (f : Form)
  /-- ADDL: spec R206. -/
  | addl (f : Form)
  /-- ADDLR: spec R207. -/
  | addlr (f : Form)
  /-- ADDLRTR: spec R208. -/
  | addlrtr (f : Form)
  /-- ADDSUB: spec R209. -/
  | addsub (f : Form)
  /-- ADDSUBL: spec R210. -/
  | addsubl (f : Form)
  /-- ADDSUBX: spec R211. -/
  | addsubx (f : Form)
  /-- ADDX: spec R212. -/
  | addx (f : Form)
  /-- AD1: spec R213. -/
  | ad1 (f : Form)
  /-- AND: spec R230. -/
  | and (f : Form)
  /-- ANDC: spec R231. -/
  | andc (f : Form)
  /-- ANDCL: spec R232. -/
  | andcl (f : Form)
  /-- ANDI: spec R233. -/
  | andi (f : Form)
  /-- ANDL: spec R234. -/
  | andl (f : Form)
  /-- ASH: spec R235. -/
  | ash (f : Form)
  /-- ASL: spec R236. -/
  | asl (f : Form)
  /-- ASLL: spec R237. -/
  | asll (f : Form)
  /-- ASLX: spec R238. -/
  | aslx (f : Form)
  /-- ASR: spec R239. -/
  | asr (f : Form)
  /-- ASRL: spec R240. -/
  | asrl (f : Form)
  /-- ASRLE: spec R241. -/
  | asrle (f : Form)
  /-- ASRX: spec R243. -/
  | asrx (f : Form)
  /-- B: spec R260. -/
  | b (cc : Cond) (t : Target)
  /-- BD: spec R261. -/
  | bd (cc : Cond) (t : Target)
  /-- BS: spec R262. -/
  | bs (cc : Cond) (t : Target)
  /-- BTST: spec R263. -/
  | btst (f : Form)
  /-- BTSTL: spec R264. -/
  | btstl (f : Form)
  /-- CLR: spec R265. -/
  | clr (f : Form)
  /-- CLRL: spec R266. -/
  | clrl (f : Form)
  /-- CMP: spec R267. -/
  | cmp (f : Form)
  /-- CMPE: spec R268. -/
  | cmpe (f : Form)
  /-- CMPL: spec R269. -/
  | cmpl (f : Form)
  /-- CMPM: spec R270. -/
  | cmpm (f : Form)
  /-- CMPML: spec R271. -/
  | cmpml (f : Form)
  /-- CS2: spec R272. -/
  | cs2 (f : Form)
  /-- CVEF: spec R290. -/
  | cvef (f : Form)
  /-- CVFI: spec R292. -/
  | cvfi (f : Form)
  /-- CVIF: spec R293. -/
  | cvif (f : Form)
  /-- DEC: spec R294. -/
  | dec (f : Form)
  /-- DECL: spec R295. -/
  | decl (f : Form)
  /-- DISPFX: spec R296. -/
  | dispfx (f : Form)
  /-- DISPX: spec R297. -/
  | dispx (f : Form)
  /-- DO #N abs: spec R298. -/
  | doNAbs (n : BitVec 14) (last : Half)
  /-- DO #N rel: spec R298. -/
  | doNRel (n : BitVec 14) (last : Half)
  /-- DO d abs: spec R298. -/
  | doDAbs (d : RegNo) (last : Half)
  /-- DO d rel: spec R298. -/
  | doDRel (d : RegNo) (last : Half)
  /-- DOFOR abs: spec R299. -/
  | doforAbs (last : Half)
  /-- DOFOR rel: spec R299. -/
  | doforRel (last : Half)
  /-- ENDDO: spec R300. -/
  | enddo
  /-- EOR: spec R302. -/
  | eor (f : Form)
  /-- EORL: spec R303. -/
  | eorl (f : Form)
  /-- FADD: spec R321. -/
  | fadd (f : Form)
  /-- FAS: spec R322. -/
  | fas (f : Form)
  /-- FIN: spec R323. -/
  | fin (f : Form)
  /-- FINR: spec R324. -/
  | finr (f : Form)
  /-- FINT: spec R325. -/
  | fint (f : Form)
  /-- FLOOR: spec R326. -/
  | floor (f : Form)
  /-- FMPY: spec R327. -/
  | fmpy (f : Form)
  /-- FSUB: spec R328. -/
  | fsub (f : Form)
  /-- FTR: spec R329. -/
  | ftr (f : Form)
  /-- FTRFL: spec R330. -/
  | ftrfl (f : Form)
  /-- FTRL: spec R331. -/
  | ftrl (f : Form)
  /-- FTST: spec R332. -/
  | ftst (f : Form)
  /-- INC: spec R350. -/
  | inc (f : Form)
  /-- INCL: spec R351. -/
  | incl (f : Form)
  /-- INSL: spec R352. -/
  | insl (f : Form)
  /-- J: spec R353. -/
  | j (cc : Cond) (t : Target)
  /-- JD: spec R354. -/
  | jd (cc : Cond) (t : Target)
  /-- JS: spec R355. -/
  | js (cc : Cond) (t : Target)
  /-- LSL: spec R356. -/
  | lsl (f : Form)
  /-- LSLL: spec R357. -/
  | lsll (f : Form)
  /-- LSLX: spec R358. -/
  | lslx (f : Form)
  /-- LSR: spec R359. -/
  | lsr (f : Form)
  /-- LSRL: spec R360. -/
  | lsrl (f : Form)
  /-- LSRX: spec R361. -/
  | lsrx (f : Form)
  /-- MAC: spec R380. -/
  | mac (f : Form)
  /-- MACL: spec R381. -/
  | macl (f : Form)
  /-- MMACX: spec R382. -/
  | mmacx (f : Form)
  /-- MAC2: spec R383. -/
  | mac2 (f : Form)
  /-- MAX: spec R384. -/
  | max (f : Form)
  /-- MAXL: spec R385. -/
  | maxl (f : Form)
  /-- MAXM: spec R386. -/
  | maxm (f : Form)
  /-- MAXML: spec R387. -/
  | maxml (f : Form)
  /-- MIN: spec R388. -/
  | min (f : Form)
  /-- MINL: spec R389. -/
  | minl (f : Form)
  /-- MINM: spec R390. -/
  | minm (f : Form)
  /-- MINML: spec R391. -/
  | minml (f : Form)
  /-- MOVE: spec R418. -/
  | move (f : MoveForm)
  /-- MOVE #16 AGU: spec R419. -/
  | move16Agu (d : BitVec 5) (imm : Half)
  /-- MOVE #16 PCU: spec R419. -/
  | move16Pcu (d : BitVec 5) (imm : Half)
  /-- MPF: spec R420. -/
  | mpf (f : Form)
  /-- MPF2: spec R421. -/
  | mpf2 (f : Form)
  /-- MPSS: spec R423. -/
  | mpss (f : Form)
  /-- MPUU: spec R424. -/
  | mpuu (f : Form)
  /-- MPX: spec R425. -/
  | mpx (f : Form)
  /-- MSKG: spec R427. -/
  | mskg (f : Form)
  /-- MSKGL: spec R428. -/
  | mskgl (f : Form)
  /-- NEG: spec R429. -/
  | neg (f : Form)
  /-- NEGL: spec R430. -/
  | negl (f : Form)
  /-- NOP: spec R431. -/
  | nop
  /-- NOT: spec R432. -/
  | not (f : Form)
  /-- NOTL: spec R433. -/
  | notl (f : Form)
  /-- OR: spec R450. -/
  | or (f : Form)
  /-- ORC: spec R451. -/
  | orc (f : Form)
  /-- ORCL: spec R452. -/
  | orcl (f : Form)
  /-- ORI: spec R453. -/
  | ori (f : Form)
  /-- ORL: spec R454. -/
  | orl (f : Form)
  /-- PACK: spec R455. -/
  | pack (f : Form)
  /-- PACKL: spec R456. -/
  | packl (f : Form)
  /-- PDN: spec R457. -/
  | pdn (f : Form)
  /-- PDNE: spec R458. -/
  | pdne (f : Form)
  /-- PDNL: spec R459. -/
  | pdnl (f : Form)
  /-- PDNLE: spec R460. -/
  | pdnle (f : Form)
  /-- PDNX: spec R461. -/
  | pdnx (f : Form)
  /-- RNDL: spec R462. -/
  | rndl (f : Form)
  /-- ROL: spec R463. -/
  | rol (f : Form)
  /-- ROLL: spec R464. -/
  | roll (f : Form)
  /-- ROR: spec R465. -/
  | ror (f : Form)
  /-- RORL: spec R466. -/
  | rorl (f : Form)
  /-- SAC2: spec R481. -/
  | sac2 (f : Form)
  /-- SAH: spec R482. -/
  | sah (f : Form)
  /-- SBC: spec R483. -/
  | sbc (f : Form)
  /-- SBCL: spec R484. -/
  | sbcl (f : Form)
  /-- SMB: spec R485. -/
  | smb (f : Form)
  /-- SMBL: spec R486. -/
  | smbl (f : Form)
  /-- STOP: spec R487. -/
  | stop
  /-- SUB: spec R488. -/
  | sub (f : Form)
  /-- SUBL: spec R489. -/
  | subl (f : Form)
  /-- SUBLR: spec R490. -/
  | sublr (f : Form)
  /-- SUBLRTR: spec R491. -/
  | sublrtr (f : Form)
  /-- SUBX: spec R492. -/
  | subx (f : Form)
  /-- SWL: spec R493. -/
  | swl (f : Form)
  /-- TR: spec R494. -/
  | tr (f : Form)
  /-- TRL: spec R495. -/
  | trl (f : Form)
  /-- TST: spec R496. -/
  | tst (f : Form)
  /-- TSTL: spec R497. -/
  | tstl (f : Form)
  /-- TSTX: spec R498. -/
  | tstx (f : Form)
  /-- FRAME 8a: spec R116. -/
  | frame8a (i1 : Slot1) (i2 : Slot2) (at2 : BitVec 2) (x : XferX)
  /-- FRAME 8b: spec R116. -/
  | frame8b (i1 : Slot1) (i2 : Slot2) (at2 : BitVec 2) (x : XferRR)
  /-- FRAME 8c: spec R116. -/
  | frame8c (i1 : Slot1) (i2 : Slot2) (cc : Cond) (rs rd : BitVec 4)
  /-- FRAME 8d: spec R116. -/
  | frame8d (i1 : Slot1) (i2 : Slot2) (x : XferRC)
  /-- RTS: spec R480. -/
  | rts (cc : Cond)
  /-- CVFE: spec R291. -/
  | cvfe (f : Form)
  /-- MPF2S: spec R422. -/
  | mpf2s (f : Form)
  /-- MPYL: spec R426. -/
  | mpyl (f : Form)
deriving DecidableEq, Repr, Inhabited

end Sys2Proof
end

