-- ==== Sys2Proof/Config.lean ====
section
/-! DEFINITION. What an implementation fixes and the spec leaves open (spec/00_scope.md R4): the
launch parameters, which `State` carries so that a statement about every state covers every launch,
and the configuration functions, constants with no body, so that nothing can be proved of their
values. -/

namespace Sys2Proof

/-- The open parameters of a launch (spec/00_scope.md R4). `modeInd`, `modeInc`, `neutralU`,
`neutralM` and `atInd` are the codes and values behind the assumptions (3) and (4) of
spec/20_memory.md R72 and the form `(AT)` of R75. A lost code is `none` until a launch supplies it
(spec/30_encoding.md R108, spec/43_cvef_to_eorl.md R291, spec/47_move_to_notl.md R422, R426,
spec/40_abs_to_ad1.md R206). -/
structure Launch where
  pramWords : Nat
  xramBase : Nat
  xramWords : Nat
  yramBase : Nat
  yramWords : Nat
  modeImm : BitVec 3
  modeInd : BitVec 3
  modeInc : BitVec 3
  neutralU : Bool
  neutralM : Half
  atInd : BitVec 2
  rc : Vector (Option CReg) 64
  rtsWord : Option Long
  cvfeOpcode : Option (BitVec 7)
  mpf2sCode : Option (BitVec 5 × Bool)
  mpylCode : Option (BitVec 5 × Bool)
  addlOp2Code : Option (BitVec 5 × Bool)
deriving DecidableEq, Repr, Inhabited

/-- The AGU/AGU-Y group of control registers in the order spec/10_state.md R36 lists it.
DESIGN CHOICE (log 9), unsafe: the numbers are an open table. -/
def Launch.aguGroup : List (Option CReg) :=
  [some (.a 0), some (.a 1), some (.a 2), some (.a 3), some (.a 4), some (.a 5), some (.a 6),
   some (.a 7), some (.m 0), some (.m 1), some (.m 2), some (.m 3), some (.m 4), some (.m 5),
   some (.m 6), some (.m 7), some .atReg]

/-- The PCU/ALU group of control registers (spec/10_state.md R36), those a transfer may write
first. DESIGN CHOICE (log 9), unsafe: the numbers are an open table. -/
def Launch.pcuGroup : List (Option CReg) :=
  [some .ccr, some .sr, some .sp, some .cp, some .la, some .lc, some .ac0, some .ac1,
   some .pc, some .ss, some .csl, some .csh, some .dcsr]

/-- The table `rc(sc, idx)` at index `32 * sc + idx`. DESIGN CHOICE (log 9), unsafe. -/
def Launch.resetRc : Vector (Option CReg) 64 :=
  Vector.ofFn fun i =>
    if i.val < 32 then Launch.aguGroup.getD i.val none else Launch.pcuGroup.getD (i.val - 32) none

/-- The launch parameters of `State.reset`. DESIGN CHOICE (log 7, 8, 9, 10), unsafe: the spec gives
no value for any of them. -/
def Launch.reset : Launch where
  pramWords := 65536
  xramBase := 0
  xramWords := 32768
  yramBase := 32768
  yramWords := 32768
  modeImm := 7
  modeInd := 0
  modeInc := 1
  neutralU := false
  neutralM := 0
  atInd := 1
  rc := Launch.resetRc
  rtsWord := none
  cvfeOpcode := none
  mpf2sCode := none
  mpylCode := none
  addlOp2Code := none

namespace Config

/-- `cond(cc, CCR)` for the codes other than 1111 (spec/30_encoding.md R120). Log 11, safe. -/
opaque cond : Cond → Half → Bool

/-- The registers of the address generators (spec/10_state.md R35). -/
structure AguState where
  a : Vector Half 8
  m : Vector Half 8
  atReg : Half
deriving DecidableEq, Repr, Inhabited

/-- What an address generator answers: the address and the new values of the registers it may
change, `base` being the address register that the transfer names (spec/20_memory.md R72, R75). -/
structure AguResult where
  addr : Half
  base : Half
  m : Vector Half 8
  atReg : Half
deriving DecidableEq, Repr, Inhabited

/-- `agu(A, mode, u, imm, AGUstate)` in the modes that no assumption of spec/20_memory.md R72
covers. Log 12, safe. -/
opaque agu : BitVec 3 → BitVec 3 → Bool → Half → AguState → AguResult

/-- `agu_y(AT field, AGUstate)` for the field values other than 00 and that of `(AT)`
(spec/20_memory.md R75); the named address register is AT. Log 13, safe. -/
opaque aguY : BitVec 2 → AguState → AguResult

/-- `scaled(op, exact_result)` of the Scaling mode (spec/30_encoding.md R121). Log 14, safe. -/
opaque scaled : Op → Int → Int

/-- The exact results that SAC2 gives the two accumulators (spec/49_rts_to_tstx.md R481). -/
structure Sac2Sums where
  ac1 : Int
  ac0 : Int
deriving DecidableEq, Repr, Inhabited

/-- The exact results of SAC2 from S1, S2, AC1, AC0 and CCR without the saturation bit, on which
overflow does not depend (spec/49_rts_to_tstx.md R481, note 6). Log 16, safe. -/
opaque sac2Sums : Long → Long → Long → Long → Half → Sac2Sums

/-- What else SAC2 yields (spec/49_rts_to_tstx.md R481): the value an accumulator takes when its
result overflows in the saturation mode, the result and whether it is 64 bits wide, and U, N and Z,
which its lost page defined. -/
structure Sac2Result where
  limit1 : Long
  limit0 : Long
  d : Dbl
  wide : Bool
  u : Bool
  n : Bool
  z : Bool
deriving DecidableEq, Repr, Inhabited

/-- `sac2(S1, S2, AC1, AC0, CCR)` (spec/49_rts_to_tstx.md R481). Log 16, safe. -/
opaque sac2 : Long → Long → Long → Long → Half → Sac2Result

/-- The operations of `fop32` (spec/44_fadd_to_ftst.md R320). -/
inductive FOp where
  | add
  | sub
  | mul
deriving DecidableEq, Repr, Inhabited

/-- `fop32(op, a, b)` outside normal finite operands with a normal finite result
(spec/44_fadd_to_ftst.md R320, spec/93_implementation_defined.md U15). Log 17, safe. -/
opaque fop32 : FOp → Long → Long → Long

/-- The result of FIN, FINR, FINT or FLOOR for an operand for which the spec states none: zero,
NaN, denormal, and the exponents that leave the range (spec/93_implementation_defined.md U15, U16).
Log 18, safe. -/
opaque floatSpecial : Op → Long → Long

/-- `fin_frac(f)`, the fraction of the reciprocal's first approximation
(spec/44_fadd_to_ftst.md R323). Log 18, safe. -/
opaque finFrac : BitVec 23 → BitVec 23

/-- `finr32(S)`, the fraction of the reciprocal root's first approximation
(spec/44_fadd_to_ftst.md R324). Log 18, safe. -/
opaque finr32 : Long → BitVec 23

/-- The sign of a zero result of FINT and FLOOR (spec/44_fadd_to_ftst.md R325,
spec/93_implementation_defined.md U15). Log 20, safe. -/
opaque zeroSign : Op → Long → Bool

/-- Which of several competing values a location takes (spec/93_implementation_defined.md U3, U8,
U18): an index from the step counter and the number of the location. Log 21, safe. -/
opaque draw : Nat → Nat → Nat

/-- A flag that is `any value` (spec/93_implementation_defined.md U12), from the step counter and
the number of the flag. Log 23, safe. -/
opaque freeBit : Nat → Nat → Bool

end Config
end Sys2Proof
end

