-- ==== Sys2Proof/Machine/OpTable.lean ====
section
/-! DEFINITION. The opcode map of spec/30_encoding.md R126 and R127 as a table: for each operation its
code, the formats its page prints, which operand fields it uses, their widths and whether it offers
`[s]`; and how `Instr` is an operation with a form. -/

namespace Sys2Proof

/-- The formats of one ALU operation (spec/30_encoding.md R101). -/
inductive Fmt where
  | f1
  | f2
  | f3
  | f4
  | f5
  | f6
  | f7
  | f8a
  | f8b
  | f8c
  | f8d
deriving DecidableEq, Repr, Inhabited

/-- Which operand fields an operation uses (spec/30_encoding.md R130, R131). -/
inductive Shape where
  /-- `s1, s2, d`. -/
  | three
  /-- `s, d`. -/
  | unary
  /-- `s` alone: the tests. -/
  | source
  /-- `d` alone: the clears. -/
  | dest
  /-- `s, d`, with `d` only read: compares and bit tests. -/
  | compare
  /-- No operand: NOP. -/
  | none
deriving DecidableEq, Repr, Inhabited

/-- The width of a register operand (spec/30_encoding.md R117). -/
inductive Width where
  | w16
  | w32
  | w64
deriving DecidableEq, Repr, Inhabited

/-- Whether a register number names a long or double operand (spec/10_state.md R21, R22, U2). -/
def isEven (n : RegNo) : Bool := !n.getLsbD 0

/-- The code of an operation: seven bits for OP1, five bits and the `#` bit for OP2, five bits for a
shift-type OP2 operation, whose `#` bit selects the immediate (spec/30_encoding.md R118, R125). -/
inductive OpCode where
  | op1 (c : BitVec 7)
  | op2 (c : BitVec 5) (hash : Bool)
  | shift (c : BitVec 5)
deriving DecidableEq, Repr, Inhabited

/-- One line of the opcode map. -/
structure OpInfo where
  code : Option OpCode
  formats : List Fmt
  shape : Shape
  fst : Width
  snd : Width
  dst : Width
  scaling : Bool
deriving DecidableEq, Repr, Inhabited

/-- All four sub-formats of format 8. -/
def formats8 : List Fmt := [.f8a, .f8b, .f8c, .f8d]
/-- 1 2 3 4 5 6 7 8. -/
def formatsShort : List Fmt := [.f1, .f2, .f3, .f4, .f5, .f6, .f7] ++ formats8
/-- 1 2 4 5 6 7 8. -/
def formatsLong : List Fmt := [.f1, .f2, .f4, .f5, .f6, .f7] ++ formats8
/-- 1 4 5 6 7 8. -/
def formatsRegister : List Fmt := [.f1, .f4, .f5, .f6, .f7] ++ formats8
/-- 1 4 5 6 8. -/
def formatsNoF7 : List Fmt := [.f1, .f4, .f5, .f6] ++ formats8
/-- 4 5 6 7 8. -/
def formatsNoF1 : List Fmt := [.f4, .f5, .f6, .f7] ++ formats8
/-- 4 5 6 8. -/
def formatsTransfer : List Fmt := [.f4, .f5, .f6] ++ formats8
/-- 1 8. -/
def formatsThree : List Fmt := [.f1] ++ formats8
/-- 1 4 5 6 7. For FIN and FINR format 7 is listed with no printed table: R126 and
spec/44_fadd_to_ftst.md R323 give it the common layout, while the general ruling
spec/90_conflicts.md C20 denies a format without a table. DEDUCED (log 54), unsafe: R126 is
followed. -/
def formatsSingle : List Fmt := [.f1, .f4, .f5, .f6, .f7]
/-- 1 8c 8d. -/
def formatsFas : List Fmt := [.f1, .f8c, .f8d]
/-- 8a 8d. -/
def formatsAsrle : List Fmt := [.f8a, .f8d]

/-- The opcode map: code, formats, operand fields, widths of the first source, the second source and
the destination, and whether `[s]` is offered (spec/30_encoding.md R121, R126, R127). The codes of
CVFE, MPF2S and MPYL are open (spec/00_scope.md R4).

ADDL offers `[s]` though its format 8 syntax lines are lost (spec/40_abs_to_ad1.md R206), as ADD and
SUBL do: DESIGN CHOICE (log 55), unsafe. FMPY has the listed format 2 whose table is not printed:
DEDUCED (log 54), unsafe. CMPE has three operands and writes D (spec/42_b_to_cs2.md R268), though R131
counts it among the compares: DEDUCED from spec/00_scope.md R2 (log 56), unsafe. -/
def Op.info : Op → OpInfo
  | .abs => ⟨some (.op1 0b0010000#7), formatsRegister, .unary, .w16, .w16, .w16, true⟩
  | .absl => ⟨some (.op1 0b0110000#7), formatsRegister, .unary, .w32, .w16, .w32, true⟩
  | .adc => ⟨some (.op1 0b0000101#7), formatsShort, .three, .w16, .w16, .w16, true⟩
  | .adcl => ⟨some (.op1 0b0100101#7), formatsLong, .three, .w32, .w32, .w32, true⟩
  | .adc16l => ⟨some (.op1 0b0001000#7), formatsLong, .three, .w16, .w32, .w32, true⟩
  | .add => ⟨some (.op1 0b0000100#7), formatsShort, .three, .w16, .w16, .w16, true⟩
  | .addl => ⟨some (.op1 0b0100100#7), formatsLong, .three, .w32, .w32, .w32, true⟩
  | .addlr => ⟨some (.op1 0b0101001#7), formatsLong, .three, .w32, .w32, .w32, true⟩
  | .addlrtr => ⟨some (.op1 0b0101010#7), formatsRegister, .three, .w32, .w32, .w16, true⟩
  | .addsub => ⟨some (.op1 0b0000111#7), formatsNoF7, .three, .w16, .w16, .w16, true⟩
  | .addsubl => ⟨some (.op1 0b0011011#7), formatsNoF7, .three, .w32, .w32, .w32, true⟩
  | .addsubx => ⟨some (.op1 0b0100000#7), formatsNoF7, .three, .w32, .w32, .w32, true⟩
  | .addx => ⟨some (.op1 0b0100111#7), formatsRegister, .three, .w32, .w32, .w32, true⟩
  | .ad1 => ⟨some (.op1 0b0101111#7), formatsShort, .three, .w16, .w16, .w16, true⟩
  | .and => ⟨some (.op1 0b1000001#7), formatsShort, .three, .w16, .w16, .w16, false⟩
  | .andc => ⟨some (.op1 0b1000010#7), formatsShort, .three, .w16, .w16, .w16, false⟩
  | .andcl => ⟨some (.op1 0b1010010#7), formatsLong, .three, .w32, .w32, .w32, false⟩
  | .andi => ⟨some (.op1 0b1000011#7), formatsShort, .three, .w16, .w16, .w16, false⟩
  | .andl => ⟨some (.op1 0b1010001#7), formatsLong, .three, .w32, .w32, .w32, false⟩
  | .ash => ⟨some (.op1 0b0111110#7), formatsRegister, .three, .w32, .w32, .w32, true⟩
  | .asl => ⟨some (.shift 0b00100#5), formatsRegister, .three, .w16, .w16, .w16, false⟩
  | .asll => ⟨some (.shift 0b01100#5), formatsRegister, .three, .w16, .w32, .w32, false⟩
  | .aslx => ⟨some (.shift 0b00101#5), formatsRegister, .three, .w16, .w32, .w32, false⟩
  | .asr => ⟨some (.shift 0b10100#5), formatsRegister, .three, .w16, .w16, .w16, false⟩
  | .asrl => ⟨some (.shift 0b11100#5), formatsRegister, .three, .w16, .w32, .w32, false⟩
  | .asrle => ⟨some (.op2 0b01101#5 false), formatsAsrle, .three, .w16, .w32, .w32, false⟩
  | .asrx => ⟨some (.shift 0b10101#5), formatsRegister, .three, .w16, .w32, .w32, false⟩
  | .btst => ⟨some (.shift 0b10000#5), formatsNoF1, .compare, .w16, .w16, .w16, false⟩
  | .btstl => ⟨some (.shift 0b11010#5), formatsNoF1, .compare, .w16, .w16, .w32, false⟩
  | .clr => ⟨some (.op1 0b0000001#7), formatsRegister, .dest, .w16, .w16, .w16, false⟩
  | .clrl => ⟨some (.op1 0b0100001#7), formatsRegister, .dest, .w16, .w16, .w32, false⟩
  | .cmp => ⟨some (.op1 0b0010101#7), formatsShort, .compare, .w16, .w16, .w16, false⟩
  | .cmpe => ⟨some (.op1 0b0101110#7), formatsLong, .three, .w16, .w16, .w32, false⟩
  | .cmpl => ⟨some (.op1 0b0110101#7), formatsLong, .compare, .w32, .w16, .w32, false⟩
  | .cmpm => ⟨some (.op1 0b0010110#7), formatsShort, .compare, .w16, .w16, .w16, false⟩
  | .cmpml => ⟨some (.op1 0b0110110#7), formatsLong, .compare, .w32, .w16, .w32, false⟩
  | .cs2 => ⟨some (.op2 0b00110#5 true), formatsThree, .three, .w32, .w32, .w32, false⟩
  | .cvef => ⟨some (.op1 0b0011101#7), formatsThree, .three, .w32, .w16, .w32, false⟩
  | .cvfi => ⟨some (.op1 0b0001110#7), formatsRegister, .unary, .w32, .w16, .w32, false⟩
  | .cvif => ⟨some (.op1 0b0001111#7), formatsRegister, .unary, .w32, .w16, .w32, false⟩
  | .dec => ⟨some (.op1 0b0010010#7), formatsRegister, .unary, .w16, .w16, .w16, true⟩
  | .decl => ⟨some (.op1 0b0110010#7), formatsRegister, .unary, .w32, .w16, .w32, true⟩
  | .dispfx => ⟨some (.op1 0b1001110#7), formatsRegister, .unary, .w16, .w16, .w32, false⟩
  | .dispx => ⟨some (.op1 0b1001101#7), formatsRegister, .unary, .w16, .w16, .w32, true⟩
  | .eor => ⟨some (.op1 0b1001000#7), formatsShort, .three, .w16, .w16, .w16, false⟩
  | .eorl => ⟨some (.op1 0b1011000#7), formatsLong, .three, .w32, .w32, .w32, false⟩
  | .fadd => ⟨some (.op1 0b0001010#7), formatsLong, .three, .w32, .w32, .w32, false⟩
  | .fas => ⟨some (.op1 0b0001011#7), formatsFas, .three, .w32, .w32, .w32, false⟩
  | .fin => ⟨some (.op1 0b0011110#7), formatsSingle, .unary, .w32, .w16, .w32, false⟩
  | .finr => ⟨some (.op1 0b0011111#7), formatsSingle, .unary, .w32, .w16, .w32, false⟩
  | .fint => ⟨some (.op1 0b0001101#7), formatsRegister, .unary, .w32, .w16, .w32, false⟩
  | .floor => ⟨some (.op1 0b0001100#7), formatsRegister, .unary, .w32, .w16, .w32, false⟩
  | .fmpy => ⟨some (.op2 0b01111#5 false), formatsLong, .three, .w32, .w32, .w32, false⟩
  | .fsub => ⟨some (.op1 0b0101101#7), formatsLong, .three, .w32, .w32, .w32, false⟩
  | .ftr => ⟨some (.op1 0b0000110#7), formatsRegister, .unary, .w16, .w16, .w32, false⟩
  | .ftrfl => ⟨some (.op1 0b0001001#7), formatsRegister, .unary, .w16, .w16, .w32, false⟩
  | .ftrl => ⟨some (.op1 0b0100110#7), formatsRegister, .unary, .w32, .w16, .w16, true⟩
  | .ftst => ⟨some (.op1 0b0101100#7), formatsRegister, .source, .w32, .w16, .w16, false⟩
  | .inc => ⟨some (.op1 0b0000010#7), formatsRegister, .unary, .w16, .w16, .w16, true⟩
  | .incl => ⟨some (.op1 0b0100010#7), formatsRegister, .unary, .w32, .w16, .w32, true⟩
  | .insl => ⟨some (.op1 0b1010100#7), formatsThree, .three, .w32, .w32, .w32, false⟩
  | .lsl => ⟨some (.shift 0b00001#5), formatsRegister, .three, .w16, .w16, .w16, false⟩
  | .lsll => ⟨some (.shift 0b01000#5), formatsRegister, .three, .w16, .w32, .w32, false⟩
  | .lslx => ⟨some (.shift 0b00010#5), formatsRegister, .three, .w32, .w32, .w32, false⟩
  | .lsr => ⟨some (.shift 0b10001#5), formatsRegister, .three, .w16, .w16, .w16, false⟩
  | .lsrl => ⟨some (.shift 0b11000#5), formatsRegister, .three, .w16, .w32, .w32, false⟩
  | .lsrx => ⟨some (.shift 0b10010#5), formatsRegister, .three, .w32, .w32, .w32, false⟩
  | .mac => ⟨some (.op2 0b01001#5 true), formatsThree, .three, .w16, .w16, .w64, false⟩
  | .macl => ⟨some (.op2 0b11011#5 true), formatsThree, .three, .w32, .w32, .w64, false⟩
  | .mmacx => ⟨some (.op2 0b11001#5 true), formatsNoF7, .three, .w32, .w32, .w32, false⟩
  | .mac2 => ⟨some (.op2 0b01110#5 true), formatsThree, .three, .w32, .w32, .w64, false⟩
  | .max => ⟨some (.op1 0b0010111#7), formatsShort, .three, .w16, .w16, .w16, false⟩
  | .maxl => ⟨some (.op1 0b0110111#7), formatsLong, .three, .w32, .w32, .w32, false⟩
  | .maxm => ⟨some (.op1 0b0011001#7), formatsShort, .three, .w16, .w16, .w16, false⟩
  | .maxml => ⟨some (.op1 0b0111001#7), formatsLong, .three, .w32, .w32, .w32, false⟩
  | .min => ⟨some (.op1 0b0011000#7), formatsShort, .three, .w16, .w16, .w16, false⟩
  | .minl => ⟨some (.op1 0b0111000#7), formatsLong, .three, .w32, .w32, .w32, false⟩
  | .minm => ⟨some (.op1 0b0011010#7), formatsShort, .three, .w16, .w16, .w16, false⟩
  | .minml => ⟨some (.op1 0b0111010#7), formatsLong, .three, .w32, .w32, .w32, false⟩
  | .mpf => ⟨some (.op2 0b11101#5 false), formatsShort, .three, .w16, .w16, .w32, false⟩
  | .mpf2 => ⟨some (.op2 0b11101#5 true), formatsNoF7, .three, .w32, .w32, .w32, false⟩
  | .mpss => ⟨some (.op2 0b11110#5 false), formatsShort, .three, .w16, .w16, .w32, false⟩
  | .mpuu => ⟨some (.op2 0b11011#5 false), formatsShort, .three, .w16, .w16, .w32, false⟩
  | .mpx => ⟨some (.op2 0b10110#5 false), formatsLong, .three, .w32, .w32, .w32, false⟩
  | .mskg => ⟨some (.shift 0b01010#5), formatsRegister, .three, .w16, .w16, .w16, false⟩
  | .mskgl => ⟨some (.shift 0b01011#5), formatsRegister, .three, .w16, .w32, .w32, false⟩
  | .neg => ⟨some (.op1 0b0010001#7), formatsRegister, .unary, .w16, .w16, .w16, true⟩
  | .negl => ⟨some (.op1 0b0110001#7), formatsRegister, .unary, .w32, .w16, .w32, true⟩
  | .not => ⟨some (.op1 0b1001001#7), formatsRegister, .unary, .w16, .w16, .w16, false⟩
  | .notl => ⟨some (.op1 0b1011001#7), formatsRegister, .unary, .w32, .w16, .w32, false⟩
  | .or => ⟨some (.op1 0b1000101#7), formatsShort, .three, .w16, .w16, .w16, false⟩
  | .orc => ⟨some (.op1 0b1000110#7), formatsShort, .three, .w16, .w16, .w16, false⟩
  | .orcl => ⟨some (.op1 0b1010110#7), formatsLong, .three, .w32, .w32, .w32, false⟩
  | .ori => ⟨some (.op1 0b1000111#7), formatsShort, .three, .w16, .w16, .w16, false⟩
  | .orl => ⟨some (.op1 0b1010101#7), formatsLong, .three, .w32, .w32, .w32, false⟩
  | .pack => ⟨some (.op1 0b1001100#7), formatsRegister, .three, .w16, .w16, .w16, false⟩
  | .packl => ⟨some (.op1 0b1011100#7), formatsRegister, .three, .w32, .w32, .w32, false⟩
  | .pdn => ⟨some (.op1 0b1001111#7), formatsRegister, .unary, .w16, .w16, .w16, false⟩
  | .pdne => ⟨some (.op1 0b1000100#7), formatsRegister, .unary, .w16, .w16, .w32, false⟩
  | .pdnl => ⟨some (.op1 0b1011111#7), formatsRegister, .unary, .w32, .w16, .w16, false⟩
  | .pdnle => ⟨some (.op1 0b1011110#7), formatsRegister, .unary, .w32, .w16, .w32, false⟩
  | .pdnx => ⟨some (.op1 0b1011101#7), formatsRegister, .unary, .w32, .w16, .w16, false⟩
  | .rndl => ⟨some (.op1 0b0101000#7), formatsRegister, .unary, .w32, .w16, .w32, false⟩
  | .rol => ⟨some (.op2 0b00011#5 false), formatsRegister, .unary, .w16, .w16, .w16, false⟩
  | .roll => ⟨some (.op2 0b01001#5 false), formatsRegister, .unary, .w32, .w16, .w32, false⟩
  | .ror => ⟨some (.op2 0b10011#5 false), formatsRegister, .unary, .w16, .w16, .w16, false⟩
  | .rorl => ⟨some (.op2 0b11001#5 false), formatsRegister, .unary, .w32, .w16, .w32, false⟩
  | .sac2 => ⟨some (.op2 0b10110#5 true), formatsThree, .three, .w32, .w32, .w32, false⟩
  | .sah => ⟨some (.op1 0b0111111#7), formatsRegister, .three, .w32, .w32, .w32, true⟩
  | .sbc => ⟨some (.op1 0b0010100#7), formatsShort, .three, .w16, .w16, .w16, true⟩
  | .sbcl => ⟨some (.op1 0b0110100#7), formatsLong, .three, .w32, .w32, .w32, true⟩
  | .smb => ⟨some (.op2 0b10111#5 false), formatsNoF1, .unary, .w16, .w16, .w16, false⟩
  | .smbl => ⟨some (.op2 0b10111#5 true), formatsTransfer, .unary, .w32, .w16, .w16, false⟩
  | .sub => ⟨some (.op1 0b0010011#7), formatsShort, .three, .w16, .w16, .w16, true⟩
  | .subl => ⟨some (.op1 0b0110011#7), formatsLong, .three, .w32, .w32, .w32, true⟩
  | .sublr => ⟨some (.op1 0b0111100#7), formatsLong, .three, .w32, .w32, .w32, true⟩
  | .sublrtr => ⟨some (.op1 0b0111101#7), formatsRegister, .three, .w32, .w32, .w16, true⟩
  | .subx => ⟨some (.op1 0b0111011#7), formatsRegister, .three, .w32, .w32, .w32, true⟩
  | .swl => ⟨some (.op1 0b1011011#7), formatsRegister, .unary, .w32, .w16, .w32, false⟩
  | .tr => ⟨some (.op1 0b1001010#7), formatsNoF1, .unary, .w16, .w16, .w16, false⟩
  | .trl => ⟨some (.op1 0b1011010#7), formatsNoF1, .unary, .w32, .w16, .w32, false⟩
  | .tst => ⟨some (.op1 0b0000011#7), formatsRegister, .source, .w16, .w16, .w16, false⟩
  | .tstl => ⟨some (.op1 0b0100011#7), formatsRegister, .source, .w32, .w16, .w16, false⟩
  | .tstx => ⟨some (.op1 0b0101011#7), formatsRegister, .source, .w32, .w16, .w16, false⟩
  | .nop => ⟨some (.op1 0b0000000#7), formats8, .none, .w16, .w16, .w16, false⟩
  | .cvfe => ⟨none, formatsThree, .three, .w32, .w16, .w32, false⟩
  | .mpf2s => ⟨none, formatsNoF7, .three, .w32, .w32, .w32, false⟩
  | .mpyl => ⟨none, formatsThree, .three, .w32, .w32, .w64, false⟩

/-- Part 1 of `Op.all`. -/
def Op.all1 : List Op :=
  [.abs, .absl, .adc, .adcl, .adc16l, .add, .addl, .addlr, .addlrtr, .addsub, .addsubl,
   .addsubx, .addx, .ad1, .and, .andc, .andcl, .andi, .andl, .ash, .asl, .asll, .aslx, .asr,
   .asrl, .asrle, .asrx, .btst, .btstl, .clr, .clrl, .cmp, .cmpe]

/-- Part 2 of `Op.all`. -/
def Op.all2 : List Op :=
  [.cmpl, .cmpm, .cmpml, .cs2, .cvef, .cvfi, .cvif, .dec, .decl, .dispfx, .dispx, .eor, .eorl,
   .fadd, .fas, .fin, .finr, .fint, .floor, .fmpy, .fsub, .ftr, .ftrfl, .ftrl, .ftst, .inc,
   .incl, .insl, .lsl, .lsll, .lslx, .lsr, .lsrl]

/-- Part 3 of `Op.all`. -/
def Op.all3 : List Op :=
  [.lsrx, .mac, .macl, .mmacx, .mac2, .max, .maxl, .maxm, .maxml, .min, .minl, .minm, .minml,
   .mpf, .mpf2, .mpss, .mpuu, .mpx, .mskg, .mskgl, .neg, .negl, .not, .notl, .or, .orc, .orcl,
   .ori, .orl, .pack, .packl, .pdn, .pdne]

/-- Part 4 of `Op.all`. -/
def Op.all4 : List Op :=
  [.pdnl, .pdnle, .pdnx, .rndl, .rol, .roll, .ror, .rorl, .sac2, .sah, .sbc, .sbcl, .smb, .smbl,
   .sub, .subl, .sublr, .sublrtr, .subx, .swl, .tr, .trl, .tst, .tstl, .tstx, .nop, .cvfe,
   .mpf2s, .mpyl]

/-- Every operation, those with an open code last, so that an assigned code always wins
(spec/30_encoding.md R126, R127). -/
def Op.all : List Op := Op.all1 ++ Op.all2 ++ Op.all3 ++ Op.all4

/-- The code of an operation in formats 1 to 7 and in the slot of its own type; the lost codes come
from the launch (spec/00_scope.md R4). -/
def Op.code (l : Launch) : Op → Option OpCode
  | .cvfe => l.cvfeOpcode.map .op1
  | .mpf2s => l.mpf2sCode.map fun c => .op2 c.1 c.2
  | .mpyl => l.mpylCode.map fun c => .op2 c.1 c.2
  | op => op.info.code

/-- The code of an operation in the OP1 slot of format 8. -/
def Op.code1 (l : Launch) (op : Op) : Option OpCode :=
  match op.code l with
  | some (.op1 c) => some (.op1 c)
  | _ => none

/-- The code of an operation in the OP2 slot of format 8. NOP, TR, TRL, SUBL and ADDL have one of
their own (spec/30_encoding.md R125, spec/40_abs_to_ad1.md R206). -/
def Op.code2 (l : Launch) : Op → Option OpCode
  | .nop => some (.op2 0b00000#5 false)
  | .tr => some (.op2 0b00110#5 false)
  | .trl => some (.op2 0b01110#5 false)
  | .subl => some (.op2 0b11111#5 true)
  | .addl => l.addlOp2Code.map fun c => .op2 c.1 c.2
  | op =>
    match op.code l with
    | some (.op1 _) => none
    | c => c

/-- The seven opcode bits of a code (spec/30_encoding.md R125). -/
def OpCode.bits : OpCode → BitVec 7
  | .op1 c => c
  | .op2 c _ => 0b11#2 ++ c
  | .shift c => 0b11#2 ++ c

/-- Whether seven opcode bits and a `#` bit are this code, and then whether the first operand field
is the immediate `#5` (spec/30_encoding.md R118). -/
def OpCode.read (c : OpCode) (bits : BitVec 7) (hash : Bool) : Option Bool :=
  if c.bits = bits then
    match c with
    | .op1 _ => if hash then none else some false
    | .op2 _ h => if hash = h then some false else none
    | .shift _ => some hash
  else none

/-- The format a form is in. -/
def fmtOf : Form → Fmt
  | .f1 .. => .f1
  | .f2 .. => .f2
  | .f3 .. => .f3
  | .f4 .. => .f4
  | .f5 .. => .f5
  | .f6 .. => .f6
  | .f7 .. => .f7
  | .f8 _ _ _ _ _ (.a ..) => .f8a
  | .f8 _ _ _ _ _ (.b ..) => .f8b
  | .f8 _ _ _ _ _ (.c ..) => .f8c
  | .f8 _ _ _ _ _ (.d ..) => .f8d

/-- The sub-format of a frame. -/
def frameFmt : Frame → Fmt
  | .a .. => .f8a
  | .b .. => .f8b
  | .c .. => .f8c
  | .d .. => .f8d

/-- An ALU operation in a form as an instruction. -/
def instrOf (op : Op) (f : Form) : Instr :=
  match op with
  | .abs => .abs f
  | .absl => .absl f
  | .adc => .adc f
  | .adcl => .adcl f
  | .adc16l => .adc16l f
  | .add => .add f
  | .addl => .addl f
  | .addlr => .addlr f
  | .addlrtr => .addlrtr f
  | .addsub => .addsub f
  | .addsubl => .addsubl f
  | .addsubx => .addsubx f
  | .addx => .addx f
  | .ad1 => .ad1 f
  | .and => .and f
  | .andc => .andc f
  | .andcl => .andcl f
  | .andi => .andi f
  | .andl => .andl f
  | .ash => .ash f
  | .asl => .asl f
  | .asll => .asll f
  | .aslx => .aslx f
  | .asr => .asr f
  | .asrl => .asrl f
  | .asrle => .asrle f
  | .asrx => .asrx f
  | .btst => .btst f
  | .btstl => .btstl f
  | .clr => .clr f
  | .clrl => .clrl f
  | .cmp => .cmp f
  | .cmpe => .cmpe f
  | .cmpl => .cmpl f
  | .cmpm => .cmpm f
  | .cmpml => .cmpml f
  | .cs2 => .cs2 f
  | .cvef => .cvef f
  | .cvfi => .cvfi f
  | .cvif => .cvif f
  | .dec => .dec f
  | .decl => .decl f
  | .dispfx => .dispfx f
  | .dispx => .dispx f
  | .eor => .eor f
  | .eorl => .eorl f
  | .fadd => .fadd f
  | .fas => .fas f
  | .fin => .fin f
  | .finr => .finr f
  | .fint => .fint f
  | .floor => .floor f
  | .fmpy => .fmpy f
  | .fsub => .fsub f
  | .ftr => .ftr f
  | .ftrfl => .ftrfl f
  | .ftrl => .ftrl f
  | .ftst => .ftst f
  | .inc => .inc f
  | .incl => .incl f
  | .insl => .insl f
  | .lsl => .lsl f
  | .lsll => .lsll f
  | .lslx => .lslx f
  | .lsr => .lsr f
  | .lsrl => .lsrl f
  | .lsrx => .lsrx f
  | .mac => .mac f
  | .macl => .macl f
  | .mmacx => .mmacx f
  | .mac2 => .mac2 f
  | .max => .max f
  | .maxl => .maxl f
  | .maxm => .maxm f
  | .maxml => .maxml f
  | .min => .min f
  | .minl => .minl f
  | .minm => .minm f
  | .minml => .minml f
  | .mpf => .mpf f
  | .mpf2 => .mpf2 f
  | .mpss => .mpss f
  | .mpuu => .mpuu f
  | .mpx => .mpx f
  | .mskg => .mskg f
  | .mskgl => .mskgl f
  | .neg => .neg f
  | .negl => .negl f
  | .not => .not f
  | .notl => .notl f
  | .or => .or f
  | .orc => .orc f
  | .orcl => .orcl f
  | .ori => .ori f
  | .orl => .orl f
  | .pack => .pack f
  | .packl => .packl f
  | .pdn => .pdn f
  | .pdne => .pdne f
  | .pdnl => .pdnl f
  | .pdnle => .pdnle f
  | .pdnx => .pdnx f
  | .rndl => .rndl f
  | .rol => .rol f
  | .roll => .roll f
  | .ror => .ror f
  | .rorl => .rorl f
  | .sac2 => .sac2 f
  | .sah => .sah f
  | .sbc => .sbc f
  | .sbcl => .sbcl f
  | .smb => .smb f
  | .smbl => .smbl f
  | .sub => .sub f
  | .subl => .subl f
  | .sublr => .sublr f
  | .sublrtr => .sublrtr f
  | .subx => .subx f
  | .swl => .swl f
  | .tr => .tr f
  | .trl => .trl f
  | .tst => .tst f
  | .tstl => .tstl f
  | .tstx => .tstx f
  | .nop => .nop
  | .cvfe => .cvfe f
  | .mpf2s => .mpf2s f
  | .mpyl => .mpyl f

/-- The ALU operation and the form of an instruction that is one. -/
def partsOf : Instr → Option (Op × Form)
  | .abs f => some (.abs, f)
  | .absl f => some (.absl, f)
  | .adc f => some (.adc, f)
  | .adcl f => some (.adcl, f)
  | .adc16l f => some (.adc16l, f)
  | .add f => some (.add, f)
  | .addl f => some (.addl, f)
  | .addlr f => some (.addlr, f)
  | .addlrtr f => some (.addlrtr, f)
  | .addsub f => some (.addsub, f)
  | .addsubl f => some (.addsubl, f)
  | .addsubx f => some (.addsubx, f)
  | .addx f => some (.addx, f)
  | .ad1 f => some (.ad1, f)
  | .and f => some (.and, f)
  | .andc f => some (.andc, f)
  | .andcl f => some (.andcl, f)
  | .andi f => some (.andi, f)
  | .andl f => some (.andl, f)
  | .ash f => some (.ash, f)
  | .asl f => some (.asl, f)
  | .asll f => some (.asll, f)
  | .aslx f => some (.aslx, f)
  | .asr f => some (.asr, f)
  | .asrl f => some (.asrl, f)
  | .asrle f => some (.asrle, f)
  | .asrx f => some (.asrx, f)
  | .btst f => some (.btst, f)
  | .btstl f => some (.btstl, f)
  | .clr f => some (.clr, f)
  | .clrl f => some (.clrl, f)
  | .cmp f => some (.cmp, f)
  | .cmpe f => some (.cmpe, f)
  | .cmpl f => some (.cmpl, f)
  | .cmpm f => some (.cmpm, f)
  | .cmpml f => some (.cmpml, f)
  | .cs2 f => some (.cs2, f)
  | .cvef f => some (.cvef, f)
  | .cvfi f => some (.cvfi, f)
  | .cvif f => some (.cvif, f)
  | .dec f => some (.dec, f)
  | .decl f => some (.decl, f)
  | .dispfx f => some (.dispfx, f)
  | .dispx f => some (.dispx, f)
  | .eor f => some (.eor, f)
  | .eorl f => some (.eorl, f)
  | .fadd f => some (.fadd, f)
  | .fas f => some (.fas, f)
  | .fin f => some (.fin, f)
  | .finr f => some (.finr, f)
  | .fint f => some (.fint, f)
  | .floor f => some (.floor, f)
  | .fmpy f => some (.fmpy, f)
  | .fsub f => some (.fsub, f)
  | .ftr f => some (.ftr, f)
  | .ftrfl f => some (.ftrfl, f)
  | .ftrl f => some (.ftrl, f)
  | .ftst f => some (.ftst, f)
  | .inc f => some (.inc, f)
  | .incl f => some (.incl, f)
  | .insl f => some (.insl, f)
  | .lsl f => some (.lsl, f)
  | .lsll f => some (.lsll, f)
  | .lslx f => some (.lslx, f)
  | .lsr f => some (.lsr, f)
  | .lsrl f => some (.lsrl, f)
  | .lsrx f => some (.lsrx, f)
  | .mac f => some (.mac, f)
  | .macl f => some (.macl, f)
  | .mmacx f => some (.mmacx, f)
  | .mac2 f => some (.mac2, f)
  | .max f => some (.max, f)
  | .maxl f => some (.maxl, f)
  | .maxm f => some (.maxm, f)
  | .maxml f => some (.maxml, f)
  | .min f => some (.min, f)
  | .minl f => some (.minl, f)
  | .minm f => some (.minm, f)
  | .minml f => some (.minml, f)
  | .mpf f => some (.mpf, f)
  | .mpf2 f => some (.mpf2, f)
  | .mpss f => some (.mpss, f)
  | .mpuu f => some (.mpuu, f)
  | .mpx f => some (.mpx, f)
  | .mskg f => some (.mskg, f)
  | .mskgl f => some (.mskgl, f)
  | .neg f => some (.neg, f)
  | .negl f => some (.negl, f)
  | .not f => some (.not, f)
  | .notl f => some (.notl, f)
  | .or f => some (.or, f)
  | .orc f => some (.orc, f)
  | .orcl f => some (.orcl, f)
  | .ori f => some (.ori, f)
  | .orl f => some (.orl, f)
  | .pack f => some (.pack, f)
  | .packl f => some (.packl, f)
  | .pdn f => some (.pdn, f)
  | .pdne f => some (.pdne, f)
  | .pdnl f => some (.pdnl, f)
  | .pdnle f => some (.pdnle, f)
  | .pdnx f => some (.pdnx, f)
  | .rndl f => some (.rndl, f)
  | .rol f => some (.rol, f)
  | .roll f => some (.roll, f)
  | .ror f => some (.ror, f)
  | .rorl f => some (.rorl, f)
  | .sac2 f => some (.sac2, f)
  | .sah f => some (.sah, f)
  | .sbc f => some (.sbc, f)
  | .sbcl f => some (.sbcl, f)
  | .smb f => some (.smb, f)
  | .smbl f => some (.smbl, f)
  | .sub f => some (.sub, f)
  | .subl f => some (.subl, f)
  | .sublr f => some (.sublr, f)
  | .sublrtr f => some (.sublrtr, f)
  | .subx f => some (.subx, f)
  | .swl f => some (.swl, f)
  | .tr f => some (.tr, f)
  | .trl f => some (.trl, f)
  | .tst f => some (.tst, f)
  | .tstl f => some (.tstl, f)
  | .tstx f => some (.tstx, f)
  | .cvfe f => some (.cvfe, f)
  | .mpf2s f => some (.mpf2s, f)
  | .mpyl f => some (.mpyl, f)
  | .b .. => none
  | .bd .. => none
  | .bs .. => none
  | .doNAbs .. => none
  | .doNRel .. => none
  | .doDAbs .. => none
  | .doDRel .. => none
  | .doforAbs .. => none
  | .doforRel .. => none
  | .enddo => none
  | .j .. => none
  | .jd .. => none
  | .js .. => none
  | .move .. => none
  | .move16Agu .. => none
  | .move16Pcu .. => none
  | .nop => none
  | .stop => none
  | .frame8a .. => none
  | .frame8b .. => none
  | .frame8c .. => none
  | .frame8d .. => none
  | .rts .. => none

end Sys2Proof
end

