-- ==== Sys2Proof/Machine/Check.lean ====
section
/-! DEFINITION. Which instructions exist: the reserved encodings of spec/30_encoding.md R128 said of
the syntax, each check naming the reason. The decoder and `WellFormed` both use it. -/

namespace Sys2Proof

/-- No error when the requirement holds. -/
def require (ok : Bool) (e : DecodeError) : Option DecodeError := if ok then none else some e

/-- The operand fields of a shape: first source, second source, destination
(spec/30_encoding.md R130, R131). -/
def Shape.uses : Shape → Bool × Bool × Bool
  | .three => (true, true, true)
  | .unary => (true, false, true)
  | .source => (true, false, false)
  | .dest => (false, false, true)
  | .compare => (true, false, true)
  | .none => (false, false, false)

/-- The operation has a shift-type code, which alone offers `#5` (spec/30_encoding.md R118). -/
def Op.isShift (op : Op) : Bool :=
  match op.info.code with
  | some (.shift _) => true
  | _ => false

/-- A register number in a field of a width: even for a long or double operand
(spec/30_encoding.md R117, U2). -/
def fits (w : Width) (n : RegNo) : Bool := w == .w16 || isEven n

/-- The first operand field: `#5` only for a shift-type operation, an even number for a long
operand, 0 when the operation does not use it. -/
def fstError (op : Op) (o : Opnd) : Option DecodeError :=
  if op.info.shape.uses.1 then
    match o with
    | .reg n => require (fits op.info.fst n) .oddRegister
    | .imm5 _ => require op.isShift .opcodeUnassigned
  else require (o == .reg 0) .nonzeroCell

/-- The second source field of a three-address form. -/
def sndError (op : Op) (n : RegNo) : Option DecodeError :=
  if op.info.shape.uses.2.1 then require (fits op.info.snd n) .oddRegister
  else require (n == 0) .nonzeroCell

/-- The destination field; in a two-address form it is the second source as well
(spec/30_encoding.md R130). -/
def dstError (op : Op) (two : Bool) (n : RegNo) : Option DecodeError :=
  if op.info.shape.uses.2.2 then
    require (fits op.info.dst n && (!(two && op.info.shape.uses.2.1) || fits op.info.snd n))
      .oddRegister
  else require (n == 0) .nonzeroCell

/-- The format is printed for the operation (spec/30_encoding.md R126, R127). -/
def fmtError (op : Op) (f : Fmt) : Option DecodeError :=
  require (op.info.formats.contains f) .formatNotPrinted

/-- A 16-bit immediate has zeros above it in the second word (spec/30_encoding.md R103). -/
def immError (op : Op) (imm : Long) : Option DecodeError :=
  require (op.info.fst != .w16 || imm.extractLsb' 16 16 == 0) .nonzeroCell

/-- `mode` = MODE_IMM is refused beside an operation (spec/20_memory.md R73, U19). -/
def memError (l : Launch) (x : XferX) : Option DecodeError :=
  require (x.mode != l.modeImm) .modeImmediate

/-- A 32-bit register transfer names even registers (spec/30_encoding.md R117, U2). -/
def regError (x : XferRR) : Option DecodeError :=
  require (!x.l || (isEven x.rs && isEven x.rd)) .oddRegister

/-- An immediate to a 32-bit data register names an even one (spec/30_encoding.md R117, U2). -/
def immRegError (x : XferImm) : Option DecodeError :=
  require (x.sr || !x.lsc || isEven x.rd) .oddRegister

/-- The transfers of a frame. -/
def frameError (l : Launch) : Frame → Option DecodeError
  | .a _ x => memError l x
  | .b _ x => regError x
  | .c .. => none
  | .d _ => none

/-- The operation in the OP1 slot of a frame (spec/30_encoding.md R115, R121). -/
def slot1Error (l : Launch) (fmt : Fmt) (i : Slot1) : Option DecodeError :=
  require (i.op.code1 l).isSome .opcodeUnassigned <|> fmtError i.op fmt <|>
  require (!i.m || i.op.info.scaling) .scalingNotOffered <|>
  fstError i.op (.reg i.s1) <|> sndError i.op i.s2 <|> dstError i.op false i.d

/-- The operation in the OP2 slot of a frame (spec/30_encoding.md R116). -/
def slot2Error (l : Launch) (fmt : Fmt) (i : Slot2) : Option DecodeError :=
  require (i.op.code2 l).isSome .opcodeUnassigned <|> fmtError i.op fmt <|>
  fstError i.op i.s3 <|> sndError i.op i.s4 <|> dstError i.op false i.d2

/-- The empty OP1 slot. -/
def Slot1.empty : Slot1 := ⟨.nop, false, 0, 0, 0⟩

/-- The empty OP2 slot. -/
def Slot2.empty : Slot2 := ⟨.nop, .reg 0, 0, 0⟩

/-- One ALU operation in a form. -/
def formError (l : Launch) (op : Op) (f : Form) : Option DecodeError :=
  match f with
  | .f1 _ s1 s2 d =>
    require (op.code l).isSome .opcodeUnassigned <|> fmtError op .f1 <|>
    fstError op s1 <|> sndError op s2 <|> dstError op false d
  | .f2 _ imm s2 d =>
    require (op.code l).isSome .opcodeUnassigned <|> fmtError op .f2 <|>
    immError op imm <|> sndError op s2 <|> dstError op false d
  | .f3 _ d =>
    require (op.code l).isSome .opcodeUnassigned <|> fmtError op .f3 <|> dstError op true d
  | .f4 s d x =>
    require (op.code l).isSome .opcodeUnassigned <|> fmtError op .f4 <|>
    fstError op s <|> dstError op true d <|> memError l x
  | .f5 s d x =>
    require (op.code l).isSome .opcodeUnassigned <|> fmtError op .f5 <|>
    fstError op s <|> dstError op true d <|> regError x
  | .f6 s d _ =>
    require (op.code l).isSome .opcodeUnassigned <|> fmtError op .f6 <|>
    fstError op s <|> dstError op true d
  | .f7 _ s d x =>
    require (op.code l).isSome .opcodeUnassigned <|> fmtError op .f7 <|>
    fstError op (.reg s) <|> dstError op true d <|> immRegError x
  | .f8 .op1 m s1 s2 d fr =>
    match s1 with
    | .imm5 _ => some .opcodeUnassigned
    | .reg n => slot1Error l (frameFmt fr) ⟨op, m, n, s2, d⟩ <|> frameError l fr
  | .f8 .op2 m s1 s2 d fr =>
    require (!m) .scalingNotOffered <|>
    slot2Error l (frameFmt fr) ⟨op, s1, s2, d⟩ <|> frameError l fr

/-- A pair of operations in a frame: both slots filled or both empty; a single operation is the
operation's own instruction in `f8`. -/
def pairError (l : Launch) (i1 : Slot1) (i2 : Slot2) (fr : Frame) : Option DecodeError :=
  slot1Error l (frameFmt fr) i1 <|> slot2Error l (frameFmt fr) i2 <|> frameError l fr <|>
  require ((i1.op == .nop) == (i2.op == .nop)) .opcodeUnassigned

/-- The forms of MOVE (spec/47_move_to_notl.md R418). -/
def moveError (l : Launch) : MoveForm → Option DecodeError
  | .rr _ x => regError x
  | .rc .. => none
  | .mem _ x => memError l x
  | .memImm .. => none

/-- Why an instruction does not exist, or `none` when it does. -/
def instrError (l : Launch) (i : Instr) : Option DecodeError :=
  match partsOf i with
  | some (op, f) => formError l op f
  | none =>
    match i with
    | .move f => moveError l f
    | .rts _ => require l.rtsWord.isSome .opcodeUnassigned
    | .frame8a i1 i2 at2 x => pairError l i1 i2 (.a at2 x)
    | .frame8b i1 i2 at2 x => pairError l i1 i2 (.b at2 x)
    | .frame8c i1 i2 cc rs rd => pairError l i1 i2 (.c cc rs rd)
    | .frame8d i1 i2 x => pairError l i1 i2 (.d x)
    | _ => none

end Sys2Proof
end

