-- ==== Sys2Proof/WellFormed.lean ====
section
/-! DEFINITION. Well-formed instructions: those that some encoding of spec/30_encoding.md stands for,
under the launch parameters that fix the open codes. -/

namespace Sys2Proof

/-- The instruction exists under these launch parameters (spec/30_encoding.md R128). -/
def WellFormed (l : Launch) (i : Instr) : Prop := instrError l i = none

end Sys2Proof
end

