-- ==== Sys2Proof/Decode.lean ====
section
/-! DEFINITION. The decoder, total on any two words and refusing by name, the length of an
instruction, and after them the encoder (spec/30_encoding.md R100 to R116, R128, R131, R132). The
launch parameters supply MODE_IMM and the lost codes. -/

namespace Sys2Proof

/-! ### Length (R132) -/

/-- Whether a first word is MOVE in the layout of format 4: format 6t or 7t (R112, R114). -/
def isMoveMem (w : Long) : Bool :=
  w.extractLsb' 9 2 == 0b01#2 && !w.getLsbD 7 && w.extractLsb' 0 7 == 0b1100111#7

/-- The instruction is two words long, from its first word alone (R132). -/
def isTwoWords (l : Launch) (w : Long) : Bool :=
  let format := w.extractLsb' 7 4
  format == 0b0010#4 || format == 0b1110#4 || format == 0b0000#4
    || (isMoveMem w && w.extractLsb' 12 3 == l.modeImm)

/-- The length in words (R132). -/
def lengthOf (l : Launch) (w : Long) : Half := if isTwoWords l w then 2 else 1

/-! ### Looking up operations -/

/-- The operation with a code in formats 1 to 7, and whether its first operand is `#5`
(R126, R127). -/
def lookup7 (l : Launch) (bits : BitVec 7) (hash : Bool) : Option (Op × Bool) :=
  Op.all.findSome? fun op => ((op.code l).bind fun c => c.read bits hash).map fun imm => (op, imm)

/-- The operation with a code in the OP1 slot; NOP has a second one (R126, D25). -/
def lookup1 (l : Launch) (bits : BitVec 7) : Option Op :=
  if bits = 0b1000000#7 then some .nop
  else Op.all.find? fun op => ((op.code1 l).bind fun c => c.read bits false).isSome

/-- The operation with a code in the OP2 slot, and whether its first operand is `#5` (R127). -/
def lookup2 (l : Launch) (bits : BitVec 5) (hash : Bool) : Option (Op × Bool) :=
  Op.all.findSome? fun op =>
    ((op.code2 l).bind fun c => c.read (0b11#2 ++ bits) hash).map fun imm => (op, imm)

/-- The first operand field as the operation uses it (R118, R131). -/
def Op.opnd (op : Op) (imm : Bool) (field : RegNo) : Opnd :=
  if op.info.shape.uses.1 then (if imm then .imm5 field else .reg field) else .reg 0

/-- The second source field as the operation uses it; a repeated or unused field is ignored
(R131). -/
def Op.sndField (op : Op) (field : RegNo) : RegNo := if op.info.shape.uses.2.1 then field else 0

/-- The destination field as the operation uses it (R131). -/
def Op.dstField (op : Op) (field : RegNo) : RegNo := if op.info.shape.uses.2.2 then field else 0

/-! ### The decoder -/

/-- The instruction of an operation and a form, if it exists. -/
def checkedForm (l : Launch) (op : Op) (f : Form) : Except DecodeError Instr :=
  match formError l op f with
  | none => .ok (instrOf op f)
  | some e => .error e

/-- An instruction, if it exists. -/
def checked (l : Launch) (i : Instr) : Except DecodeError Instr :=
  match instrError l i with
  | none => .ok i
  | some e => .error e

/-- Cells the tables print 0 (R128). -/
def zeros (ok : Bool) (r : Except DecodeError Instr) : Except DecodeError Instr :=
  if ok then r else .error .nonzeroCell

/-- The form of the operation that seven opcode bits and a `#` bit name. -/
def decodeOp (l : Launch) (bits : BitVec 7) (hash : Bool) (form : Op → Bool → Form) :
    Except DecodeError Instr :=
  match lookup7 l bits hash with
  | none => .error .opcodeUnassigned
  | some (op, imm) => checkedForm l op (form op imm)

/-- The XRAM transfer of formats 4 and 6t (R109, R112). -/
def readXferX (w : Long) : XferX where
  r := w.extractLsb' 18 4
  a := w.extractLsb' 15 3
  mode := w.extractLsb' 12 3
  u := w.getLsbD 11
  de := w.getLsbD 8

/-- Format 1 (R102). -/
def decode1 (l : Launch) (w : Long) : Except DecodeError Instr :=
  zeros (!w.getLsbD 15) <|
  decodeOp l (w.extractLsb' 0 7) (w.getLsbD 16) fun op imm =>
    .f1 (w.extractLsb' 11 4) (op.opnd imm (w.extractLsb' 27 5)) (op.sndField (w.extractLsb' 17 5))
      (op.dstField (w.extractLsb' 22 5))

/-- Formats 2 and 2d (R103, R104). -/
def decode2 (l : Launch) (w w2 : Long) : Except DecodeError Instr :=
  let op := w.extractLsb' 0 7
  if op = 0b0001100#7 ∨ op = 0b0001101#7 then
    zeros (w.extractLsb' 27 5 == 0 && w2.extractLsb' 14 18 == 0) <|
    let n := w2.extractLsb' 0 14
    let last := w.extractLsb' 11 16
    .ok (if op = 0b0001100#7 then .doNAbs n last else .doNRel n last)
  else
    zeros (w.extractLsb' 15 2 == 0) <|
    decodeOp l op false fun op _ =>
      .f2 (w.extractLsb' 11 4) w2 (op.sndField (w.extractLsb' 17 5))
        (op.dstField (w.extractLsb' 22 5))

/-- The operand of formats 3m and 3mb, with the cells that are 0 in 3mb (R107, R108). -/
def decodeTarget (w : Long) (f : Cond → Target → Instr) : Except DecodeError Instr :=
  let cc := w.extractLsb' 28 4
  if w.getLsbD 27 then .ok (f cc (.imm (w.extractLsb' 11 16)))
  else
    zeros (w.extractLsb' 18 9 == 0 && w.extractLsb' 11 4 == 0) <|
    .ok (f cc (.areg (w.extractLsb' 15 3)))

/-- RTS, when the launch gives its word, else a format 3 operation (R106, R108). -/
def decode3Op (l : Launch) (w : Long) : Except DecodeError Instr :=
  if l.rtsWord.map (fun r => r.extractLsb' 0 28) = some (w.extractLsb' 0 28) then
    .ok (.rts (w.extractLsb' 28 4))
  else
    decodeOp l (w.extractLsb' 0 7) false fun op _ =>
      .f3 (w.extractLsb' 11 16) (op.dstField (w.extractLsb' 27 5))

/-- Formats 3, 3m and 3mb (R106 to R108). -/
def decode3 (l : Launch) (w : Long) : Except DecodeError Instr :=
  let op := w.extractLsb' 0 7
  let imm := w.extractLsb' 11 16
  let d := w.extractLsb' 27 5
  if op = 0b0000000#7 then zeros (w.extractLsb' 11 21 == 0) (.ok .nop)
  else if op = 0b0001010#7 then zeros (d == 0) (.ok (.doforAbs imm))
  else if op = 0b0001011#7 then zeros (d == 0) (.ok (.doforRel imm))
  else if op = 0b0001110#7 then .ok (.doDAbs d imm)
  else if op = 0b0001111#7 then .ok (.doDRel d imm)
  else if op = 0b0011011#7 then zeros (w.extractLsb' 11 21 == 0) (.ok .enddo)
  else if op = 0b0011100#7 then decodeTarget w .b
  else if op = 0b0011101#7 then decodeTarget w .j
  else if op = 0b0011110#7 then decodeTarget w .bd
  else if op = 0b0011111#7 then decodeTarget w .jd
  else if op = 0b0101100#7 then decodeTarget w .bs
  else if op = 0b0101101#7 then decodeTarget w .js
  else if op = 0b1011110#7 then zeros (w == 0xF80001DE#32) (.ok .stop)
  else if op = 0b1101101#7 then .ok (.move16Agu d imm)
  else if op = 0b1101111#7 then .ok (.move16Pcu d imm)
  else decode3Op l w

/-- Formats 6t and 7t (R112, R114). -/
def decodeMoveMem (l : Launch) (w w2 : Long) : Except DecodeError Instr :=
  let x := readXferX w
  let cc := w.extractLsb' 23 4
  zeros (w.extractLsb' 27 5 == 0 && !w.getLsbD 22) <|
  if x.mode = l.modeImm then
    zeros (w2.extractLsb' 16 16 == 0) (.ok (.move (.memImm cc x.r x.a x.u x.de (w2.extractLsb' 0 16))))
  else checked l (.move (.mem cc x))

/-- Formats 4, 6t and 7t (R109, R112, R114). -/
def decode4 (l : Launch) (w w2 : Long) : Except DecodeError Instr :=
  if isMoveMem w then decodeMoveMem l w w2
  else
    decodeOp l (w.extractLsb' 0 7) (w.getLsbD 7) fun op imm =>
      .f4 (op.opnd imm (w.extractLsb' 27 5)) (op.dstField (w.extractLsb' 22 5)) (readXferX w)

/-- Format 5 (R110). -/
def decode5 (l : Launch) (w : Long) : Except DecodeError Instr :=
  decodeOp l (w.extractLsb' 0 7) (w.getLsbD 7) fun op imm =>
    .f5 (op.opnd imm (w.extractLsb' 27 5)) (op.dstField (w.extractLsb' 22 5))
      { rs := w.extractLsb' 17 5, l := w.getLsbD 16, rd := w.extractLsb' 11 5 }

/-- Formats 6 and 2t (R105, R111). With `sr` = 0 the `sc` and `de` bits of 2t have no role, with
`sr` = 1 the `L` bit (spec/47_move_to_notl.md R418). -/
def decode6 (l : Launch) (w : Long) : Except DecodeError Instr :=
  let f1 := w.extractLsb' 17 5
  let f2 := w.extractLsb' 11 5
  let sc := w.getLsbD 16
  let de := w.getLsbD 8
  if w.extractLsb' 0 7 = 0b1100111#7 ∧ !w.getLsbD 7 then
    let cc := w.extractLsb' 23 4
    zeros (w.extractLsb' 29 3 == 0 && !w.getLsbD 22) <|
    if w.getLsbD 28 then checked l (.move (.rc cc { r := f1, sc := sc, rc := f2, de := de }))
    else checked l (.move (.rr cc { rs := f1, rd := f2, l := w.getLsbD 27 }))
  else
    decodeOp l (w.extractLsb' 0 7) (w.getLsbD 7) fun op imm =>
      .f6 (op.opnd imm (w.extractLsb' 27 5)) (op.dstField (w.extractLsb' 22 5))
        { r := f1, sc := sc, rc := f2, de := de }

/-- Format 7, which has no `#` bit (R113). -/
def decode7 (l : Launch) (w w2 : Long) : Except DecodeError Instr :=
  decodeOp l (w.extractLsb' 0 7) false fun op _ =>
    .f7 (w.extractLsb' 11 4) (if op.info.shape.uses.1 then w.extractLsb' 27 5 else 0)
      (op.dstField (w.extractLsb' 22 5))
      { rd := w.extractLsb' 17 5, lsc := w.getLsbD 16, sr := w.getLsbD 15, imm := w2 }

/-- The transfers of format 8, with the cells that are 0 in each sub-format (R115, R116). -/
def readFrame (w w2 : Long) : Bool × Frame :=
  let at2 := w2.extractLsb' 15 2
  let r5 := w.extractLsb' 11 5
  let m5 := w2.extractLsb' 10 5
  let bit9 := w2.getLsbD 9
  let de := w2.getLsbD 8
  if w2.extractLsb' 6 2 = 0b00#2 then
    (true, .a at2 { r := w.extractLsb' 12 4, a := w2.extractLsb' 9 3, mode := w2.extractLsb' 12 3
                    u := w.getLsbD 11, de := de })
  else if w2.extractLsb' 6 2 = 0b01#2 then (!de, .b at2 { rs := r5, rd := m5, l := bit9 })
  else if w2.extractLsb' 6 2 = 0b10#2 then
    (!w.getLsbD 11 && !w2.getLsbD 10,
      .c (at2 ++ w2.extractLsb' 8 2) (w.extractLsb' 12 4) (w2.extractLsb' 11 4))
  else (at2 == 0, .d { r := r5, sc := bit9, rc := m5, de := de })

/-- A pair of operations as an instruction: one operation beside an empty slot is that operation's
own instruction. -/
def pairInstr (i1 : Slot1) (i2 : Slot2) (fr : Frame) : Instr :=
  if i2.op = .nop ∧ i1.op ≠ .nop then instrOf i1.op (.f8 .op1 i1.m (.reg i1.s1) i1.s2 i1.d fr)
  else if i1.op = .nop ∧ i2.op ≠ .nop then instrOf i2.op (.f8 .op2 false i2.s3 i2.s4 i2.d2 fr)
  else
    match fr with
    | .a at2 x => .frame8a i1 i2 at2 x
    | .b at2 x => .frame8b i1 i2 at2 x
    | .c cc rs rd => .frame8c i1 i2 cc rs rd
    | .d x => .frame8d i1 i2 x

/-- Why a pair of slots and a frame do not exist together. -/
def slotsError (l : Launch) (i1 : Slot1) (i2 : Slot2) (fr : Frame) : Option DecodeError :=
  slot1Error l (frameFmt fr) i1 <|> slot2Error l (frameFmt fr) i2 <|> frameError l fr

/-- Format 8 (R115, R116). -/
def decode8 (l : Launch) (w w2 : Long) : Except DecodeError Instr :=
  match lookup1 l (w.extractLsb' 0 7), lookup2 l (w2.extractLsb' 0 5) (w2.getLsbD 5) with
  | some op1, some (op2, imm) =>
    let i1 : Slot1 :=
      { op := op1, m := w.getLsbD 16
        s1 := if op1.info.shape.uses.1 then w.extractLsb' 27 5 else 0
        s2 := op1.sndField (w.extractLsb' 17 5), d := op1.dstField (w.extractLsb' 22 5) }
    let i2 : Slot2 :=
      { op := op2, s3 := op2.opnd imm (w2.extractLsb' 27 5)
        s4 := op2.sndField (w2.extractLsb' 17 5), d2 := op2.dstField (w2.extractLsb' 22 5) }
    let fr := readFrame w w2
    zeros fr.1 <|
      match slotsError l i1 i2 fr.2 with
      | none => .ok (pairInstr i1 i2 fr.2)
      | some e => .error e
  | _, _ => .error .opcodeUnassigned

/-- The instruction that begins with the word `w`, `w2` being the word behind it, which a one-word
instruction does not read (R101). -/
def decode (l : Launch) (w w2 : Long) : Except DecodeError Instr :=
  let format := w.extractLsb' 7 4
  if format = 0b0000#4 then decode8 l w w2
  else if format = 0b0001#4 then decode1 l w
  else if format = 0b0010#4 then decode2 l w w2
  else if format = 0b0011#4 then decode3 l w
  else if w.extractLsb' 9 2 = 0b01#2 then decode4 l w w2
  else if w.extractLsb' 9 2 = 0b10#2 then decode6 l w
  else if w.extractLsb' 8 3 = 0b110#3 then decode5 l w
  else if format = 0b1110#4 then decode7 l w w2
  else .error .formatUnused

/-! ### The encoder -/

/-- The words of an instruction. -/
structure Code where
  w : Long
  w2 : Option Long
deriving DecidableEq, Repr, Inhabited

/-- The field of a first operand. -/
def opndField : Opnd → BitVec 5
  | .reg n => n
  | .imm5 k => k

/-- The `#` bit of a code beside a first operand (R118). -/
def hashBit (c : OpCode) (o : Opnd) : Bool :=
  match c with
  | .op1 _ => false
  | .op2 _ h => h
  | .shift _ =>
    match o with
    | .reg _ => false
    | .imm5 _ => true

/-- The register fields [31:27], [26:22] and [21:17] that the encoder writes: the tests repeat `s`,
the clears repeat `d` (R131, D32); `dup` says that a compare repeats `d` in the third field, as in
formats 2 and 8 (C24). -/
def operandFields (op : Op) (s1 s2 d : BitVec 5) (dup : Bool) : BitVec 15 :=
  match op.info.shape with
  | .three => s1 ++ d ++ s2
  | .unary => s1 ++ d ++ 0#5
  | .source => s1 ++ s1 ++ s1
  | .dest => 0#5 ++ d ++ d
  | .compare => s1 ++ d ++ (if dup then d else 0#5)
  | .none => 0#15

/-- The XRAM transfer fields [21:11] of formats 4 and 6t (R109). -/
def memFields (x : XferX) : BitVec 11 := x.r ++ x.a ++ x.mode ++ BitVec.ofBool x.u

/-- The words of one ALU operation in formats 1 to 7, from its code. -/
def encodeForm (op : Op) (c : OpCode) (f : Form) : Option Code :=
  let b := BitVec.ofBool
  match f with
  | .f1 cc s1 s2 d =>
    some ⟨operandFields op (opndField s1) s2 d false ++ b (hashBit c s1) ++ 0#1 ++ cc ++ 0b0001#4
      ++ c.bits, none⟩
  | .f2 cc imm s2 d =>
    some ⟨operandFields op 0 s2 d true ++ 0#2 ++ cc ++ 0b0010#4 ++ c.bits, some imm⟩
  | .f3 imm d => some ⟨d ++ imm ++ 0b0011#4 ++ c.bits, none⟩
  | .f4 s d x =>
    some ⟨(operandFields op (opndField s) 0 d false).extractLsb' 5 10 ++ memFields x ++ 0b01#2
      ++ b x.de ++ b (hashBit c s) ++ c.bits, none⟩
  | .f5 s d x =>
    some ⟨(operandFields op (opndField s) 0 d false).extractLsb' 5 10 ++ x.rs ++ b x.l ++ x.rd
      ++ 0b110#3 ++ b (hashBit c s) ++ c.bits, none⟩
  | .f6 s d x =>
    some ⟨(operandFields op (opndField s) 0 d false).extractLsb' 5 10 ++ x.r ++ b x.sc ++ x.rc
      ++ 0b10#2 ++ b x.de ++ b (hashBit c s) ++ c.bits, none⟩
  | .f7 cc s d x =>
    some ⟨(operandFields op s 0 d false).extractLsb' 5 10 ++ x.rd ++ b x.lsc ++ b x.sr ++ cc
      ++ 0b1110#4 ++ c.bits, some x.imm⟩
  | .f8 .. => none

/-- The bits [15:11] of the first word and [48:38] of the second word of a frame (R115, R116). -/
def frameFields (fr : Frame) : BitVec 5 × BitVec 11 :=
  let b := BitVec.ofBool
  match fr with
  | .a at2 x => (x.r ++ b x.u, at2 ++ x.mode ++ x.a ++ b x.de ++ 0b00#2)
  | .b at2 x => (x.rs, at2 ++ x.rd ++ b x.l ++ 0b001#3)
  | .c cc rs rd =>
    (rs ++ 0#1, cc.extractLsb' 2 2 ++ rd ++ 0#1 ++ cc.extractLsb' 0 2 ++ 0b10#2)
  | .d x => (x.r, 0b00#2 ++ x.rc ++ b x.sc ++ b x.de ++ 0b11#2)

/-- The words of a format 8 instruction (R115, R116). -/
def encodePair (l : Launch) (i1 : Slot1) (i2 : Slot2) (fr : Frame) : Option Code :=
  match i1.op.code1 l, i2.op.code2 l with
  | some c1, some c2 =>
    let fs := frameFields fr
    some ⟨operandFields i1.op i1.s1 i1.s2 i1.d true ++ BitVec.ofBool i1.m ++ fs.1 ++ 0b0000#4
        ++ c1.bits,
      some (operandFields i2.op (opndField i2.s3) i2.s4 i2.d2 true ++ fs.2
        ++ BitVec.ofBool (hashBit c2 i2.s3) ++ c2.bits.extractLsb' 0 5)⟩
  | _, _ => none

/-- The words of an ALU operation in a form. -/
def encodeOp (l : Launch) (op : Op) (f : Form) : Option Code :=
  match f with
  | .f8 .op1 m s1 s2 d fr => encodePair l ⟨op, m, opndField s1, s2, d⟩ .empty fr
  | .f8 .op2 _ s1 s2 d fr => encodePair l .empty ⟨op, s1, s2, d⟩ fr
  | f => (op.code l).bind fun c => encodeForm op c f

/-- The word of a branch or jump (R107, R108). -/
def encodeTarget (cc : Cond) (t : Target) (op : BitVec 7) : Long :=
  match t with
  | .imm v => cc ++ 1#1 ++ v ++ 0b0011#4 ++ op
  | .areg n => cc ++ 0#10 ++ n ++ 0#4 ++ 0b0011#4 ++ op

/-- The words of MOVE (spec/47_move_to_notl.md R418). -/
def encodeMove (l : Launch) (f : MoveForm) : Code :=
  let b := BitVec.ofBool
  match f with
  | .rr cc x =>
    ⟨0#4 ++ b x.l ++ cc ++ 0#1 ++ x.rs ++ 0#1 ++ x.rd ++ 0b10#2 ++ 0#2 ++ 0b1100111#7, none⟩
  | .rc cc x =>
    ⟨0#3 ++ 1#1 ++ 0#1 ++ cc ++ 0#1 ++ x.r ++ b x.sc ++ x.rc ++ 0b10#2 ++ b x.de ++ 0#1
      ++ 0b1100111#7, none⟩
  | .mem cc x =>
    ⟨0#5 ++ cc ++ 0#1 ++ memFields x ++ 0b01#2 ++ b x.de ++ 0#1 ++ 0b1100111#7, none⟩
  | .memImm cc r a u de imm =>
    ⟨0#5 ++ cc ++ 0#1 ++ memFields ⟨r, a, l.modeImm, u, de⟩ ++ 0b01#2 ++ b de ++ 0#1
      ++ 0b1100111#7, some (0#16 ++ imm)⟩

/-- A format 3 word (R106). -/
def encode3 (d : BitVec 5) (imm : Half) (op : BitVec 7) : Code := ⟨d ++ imm ++ 0b0011#4 ++ op, none⟩

/-- A format 2d instruction (R104). -/
def encode2d (n : BitVec 14) (last : Half) (op : BitVec 7) : Code :=
  ⟨0#5 ++ last ++ 0b0010#4 ++ op, some (0#18 ++ n)⟩

/-- The words of an instruction; `none` where its code is lost and the launch supplies none. -/
def encode (l : Launch) (i : Instr) : Option Code :=
  match partsOf i with
  | some (op, f) => encodeOp l op f
  | none =>
    match i with
    | .nop => some (encode3 0 0 0b0000000)
    | .b cc t => some ⟨encodeTarget cc t 0b0011100, none⟩
    | .bd cc t => some ⟨encodeTarget cc t 0b0011110, none⟩
    | .bs cc t => some ⟨encodeTarget cc t 0b0101100, none⟩
    | .j cc t => some ⟨encodeTarget cc t 0b0011101, none⟩
    | .jd cc t => some ⟨encodeTarget cc t 0b0011111, none⟩
    | .js cc t => some ⟨encodeTarget cc t 0b0101101, none⟩
    | .rts cc => l.rtsWord.map fun w => ⟨cc ++ w.extractLsb' 0 28, none⟩
    | .stop => some ⟨0xF80001DE, none⟩
    | .doNAbs n last => some (encode2d n last 0b0001100)
    | .doNRel n last => some (encode2d n last 0b0001101)
    | .doDAbs d last => some (encode3 d last 0b0001110)
    | .doDRel d last => some (encode3 d last 0b0001111)
    | .doforAbs last => some (encode3 0 last 0b0001010)
    | .doforRel last => some (encode3 0 last 0b0001011)
    | .enddo => some (encode3 0 0 0b0011011)
    | .move f => some (encodeMove l f)
    | .move16Agu d imm => some (encode3 d imm 0b1101101)
    | .move16Pcu d imm => some (encode3 d imm 0b1101111)
    | .frame8a i1 i2 at2 x => encodePair l i1 i2 (.a at2 x)
    | .frame8b i1 i2 at2 x => encodePair l i1 i2 (.b at2 x)
    | .frame8c i1 i2 cc rs rd => encodePair l i1 i2 (.c cc rs rd)
    | .frame8d i1 i2 x => encodePair l i1 i2 (.d x)
    | _ => none

/-! ### The host's question -/

/-- The instruction the decoder reads from bits numbered as the opcode table numbers them: the first
word is bits 31 to 0, the second bits 63 to 32 (R100); bits above `nbits` are 0. -/
def decodeTableWord (nbits w : Nat) : Option Instr :=
  let v := w % 2 ^ nbits
  (decode Launch.reset (BitVec.ofNat 32 v) (BitVec.ofNat 32 (v / 2 ^ 32))).toOption

end Sys2Proof
end

