-- ==== Sys2Proof/Machine/State.lean ====
section
/-! DEFINITION. The state of the core: every register, flag, stack and memory that spec/10_state.md
and spec/20_memory.md name, the launch parameters, the reasons a step can stop, and the state the
machine starts from. -/

namespace Sys2Proof.Machine

/-- A memory: the bytes that differ from what an unlisted address reads as, by strictly rising byte
address. Word `w` holds its lane `i` (bits `8 * i + 7` down to `8 * i`) at byte address `4 * w + i`.
DESIGN CHOICE (log 6), safe: spec/20_memory.md R76 calls the byte order not observable. -/
abbrev Memory := List Host.Cell

/-- The byte an unlisted address reads as. DESIGN CHOICE (log 5), unsafe: memory that the host has
not loaded is unspecified (spec/10_state.md R60). -/
def Memory.background : Byte := 0

/-- The architectural state (spec/10_state.md R20 to R36), the two memories (spec/20_memory.md R70),
the launch parameters (spec/00_scope.md R4) and the model's own step counter `draws`, which selects
free values (log 21). -/
structure State where
  /-- R0 to R31 (R20). -/
  regs : Vector Half 32
  /-- AC0 (R24). -/
  ac0 : Long
  /-- AC1 (R24). -/
  ac1 : Long
  /-- CCR (R25, R26, R27). -/
  ccr : Half
  /-- SR (R28). -/
  sr : Half
  /-- DCSR (R29). -/
  dcsr : Half
  /-- PC (R30). -/
  pc : Half
  /-- The entries of the system stack SS (R31). -/
  ss : Vector Half 16
  /-- SP (R31). -/
  sp : BitVec 4
  /-- The pending delayed transfer (R32). -/
  delay : Option Half
  /-- LA (R33). -/
  la : Half
  /-- LC (R33). -/
  lc : Half
  /-- The entries of CSL (R33). -/
  csl : Vector Half 8
  /-- The entries of CSH (R33). -/
  csh : Vector Half 8
  /-- CP (R33). -/
  cp : BitVec 3
  /-- A0 to A7 (R35). -/
  a : Vector Half 8
  /-- M0 to M7 (R35). -/
  m : Vector Half 8
  /-- AT (R35). -/
  atReg : Half
  /-- Program memory (spec/20_memory.md R70, R78). -/
  pmem : Memory
  /-- X and Y data memory (spec/20_memory.md R70, R71). -/
  dmem : Memory
  /-- The launch parameters (spec/00_scope.md R4); no instruction changes them. -/
  launch : Launch
  /-- Steps taken: the model's own counter behind the free values (log 21). -/
  draws : Nat
deriving DecidableEq, Repr, Inhabited

/-- The reasons the core is stuck: no further step, the state stays. -/
inductive Fault where
  /-- A step in the stopped state, RUN = 0 (spec/70_reset_and_hazards.md R552). Raised by `step`.
  Safe. -/
  | halted
  /-- A fetch at or beyond PRAM_WORDS (spec/20_memory.md R79, U4). Raised by `step`. Safe. -/
  | fetchOutside (addr : Half)
  /-- A data access outside the region its transfer may reach (spec/20_memory.md R79, U4). Raised by
  the X and Y transfers. Safe. -/
  | dataOutside (addr : Half)
deriving DecidableEq, Repr, Inhabited

/-- The reasons an instruction is outside the model: the treatment `refuse` of
spec/93_implementation_defined.md. All are safe: a refused step has no next state. -/
inductive Refusal where
  /-- An instruction that has no meaning in this model. Raised by no arm. -/
  | notModelled (mnemonic : String)
  /-- A word or word pair that no code table assigns (U1, U2, U19). Raised by `step`. -/
  | reserved (why : DecodeError)
  /-- A program-flow instruction in a delay slot (U10). Raised by the flow instructions. -/
  | flowInDelaySlot
  /-- A transfer whose destination is PC, DCSR, SS, CSL or CSH (U22). Raised by the transfers. -/
  | protectedDestination (c : CReg)
  /-- A control register number that the table `rc` maps to nothing (U17). Raised by the
  transfers. -/
  | rcUnassigned
  /-- DO with a count of 0 (U13). Raised by DO. -/
  | loopCountZero
  /-- ADDSUB, ADDSUBL, ADDSUBX or CVFE beside a Y transfer while DD = 0 (U7). Raised by
  format 8. -/
  | yTransferWithDD0
  /-- ADDSUB, ADDSUBL or ADDSUBX in a two-address format while DD = 1 (U6). Raised by these
  operations. -/
  | twoAddressDD1
  /-- INSL beside a transfer whose source is a data register (U9). Raised by format 8. -/
  | inslWithRegisterSource
  /-- ASRLE beside INSL (U9). Raised by format 8. -/
  | asrleWithInsl
  /-- An odd number for a long operand that only the running program shows to be long: an
  accumulator transfer, or ADDSUB's double-width destination (U2). Raised by these. -/
  | oddRegister
deriving DecidableEq, Repr, Inhabited

/-- The state the core is launched in (spec/10_state.md R60, spec/70_reset_and_hazards.md R550):
RUN = 1, STP = 0, SP = CP = 0, LC[15:14] = 00, no pending delayed transfer. The source gives no
reset value; every other item is 0. DESIGN CHOICE (log 2, 3, 4, 7), unsafe. -/
def State.reset : State where
  regs := Vector.replicate 32 0
  ac0 := 0
  ac1 := 0
  ccr := 0
  sr := 0
  dcsr := 0x4000
  pc := 0
  ss := Vector.replicate 16 0
  sp := 0
  delay := none
  la := 0
  lc := 0
  csl := Vector.replicate 8 0
  csh := Vector.replicate 8 0
  cp := 0
  a := Vector.replicate 8 0
  m := Vector.replicate 8 0
  atReg := 0
  pmem := []
  dmem := []
  launch := Launch.reset
  draws := 0

end Sys2Proof.Machine
end

