-- ==== Sys2Proof/Machine/Ops.lean ====
section
/-! DEFINITION. The named operations over memory, registers, stacks and CCR; what one part of an
instruction writes (`Effect`), how the writes of all parts reach the state (`commit`), and how the
program counter moves on (`advance`). The spec gives the core no exception, so there is no entry to
take and no return from one (spec/60_exceptions.md R520, R527). -/

namespace Sys2Proof.Machine

/-! ### Memory (spec/20_memory.md R70 to R74) -/

/-- The byte at a byte address. -/
def Memory.readByte (a : Nat) : Memory → Byte
  | [] => Memory.background
  | (k, v) :: rest => if a = k then v else Memory.readByte a rest

/-- A byte list entry, left out when it equals what an unlisted address reads as. -/
def Memory.entry (a : Nat) (v : Byte) (rest : Memory) : Memory :=
  if v = Memory.background then rest else (a, v) :: rest

/-- Replace the byte at a byte address and keep the canonical form. -/
def Memory.writeByte (a : Nat) (v : Byte) : Memory → Memory
  | [] => Memory.entry a v []
  | (k, w) :: rest =>
    if a < k then Memory.entry a v ((k, w) :: rest)
    else if a = k then Memory.entry a v rest
    else (k, w) :: Memory.writeByte a v rest

/-- The addresses are above `low` and strictly rising, and no entry is what an unlisted address
reads as. -/
def Memory.wfFrom : Option Nat → Memory → Bool
  | _, [] => true
  | low, (k, v) :: rest =>
    (match low with | none => true | some l => decide (l < k)) && decide (v ≠ Memory.background)
      && Memory.wfFrom (some k) rest

/-- The canonical form of a memory. -/
def Memory.wf (mem : Memory) : Bool := Memory.wfFrom none mem

/-- The 32-bit word at a word address: `MemRead(addr, 4)` (R74). -/
def Memory.readWord (mem : Memory) (w : Nat) : Long :=
  mem.readByte (4 * w + 3) ++ mem.readByte (4 * w + 2) ++ mem.readByte (4 * w + 1)
    ++ mem.readByte (4 * w)

/-- Replace the word at a word address: `MemWrite(addr, 4, v)` (R74). -/
def Memory.writeWord (mem : Memory) (w : Nat) (v : Long) : Memory :=
  Memory.writeByte (4 * w + 3) (v.extractLsb' 24 8) <|
  Memory.writeByte (4 * w + 2) (v.extractLsb' 16 8) <|
  Memory.writeByte (4 * w + 1) (v.extractLsb' 8 8) <|
  Memory.writeByte (4 * w) (v.extractLsb' 0 8) mem

/-- The data word at an address: `XRead` (R74). -/
def State.data (s : State) (addr : Half) : Long := s.dmem.readWord addr.toNat

/-- Whether an address lies in the region of `words` words from `base`. -/
def inRegion (base words : Nat) (addr : Half) : Bool :=
  decide (base ≤ addr.toNat) && decide (addr.toNat < base + words)

/-- Whether the Y transfer may reach an address: the region YRAM (R70). -/
def State.inY (s : State) (addr : Half) : Bool :=
  inRegion s.launch.yramBase s.launch.yramWords addr

/-- Whether the X transfer may reach an address: the region XRAM or YRAM (R70). -/
def State.inX (s : State) (addr : Half) : Bool :=
  inRegion s.launch.xramBase s.launch.xramWords addr || s.inY addr

/-! ### Data registers (spec/10_state.md R20 to R22) -/

/-- `R[n]`. -/
def State.r16 (s : State) (n : RegNo) : Half := s.regs[n.toNat]'n.isLt

/-- `RL[n] = {R[n+1], R[n]}` (R21). -/
def State.r32 (s : State) (n : RegNo) : Long := s.r16 (n + 1) ++ s.r16 n

/-- `RD[n] = {RL[(n+2) mod 32], RL[n]}` (R22). -/
def State.r64 (s : State) (n : RegNo) : Dbl := s.r32 (n + 2) ++ s.r32 n

/-- The register number of the four-bit field `f` of an `R.L` operand (R21). -/
def longReg (f : BitVec 4) : RegNo := f ++ 0#1

/-- `DD` = SR[9] (R28). -/
def State.dd (s : State) : Bool := s.sr.getLsbD 9

/-- `RND` = CCR[9] (R27). -/
def State.rnd (s : State) : Bool := s.ccr.getLsbD 9

/-- The saturation mode CCR[8] (R25). -/
def State.satMode (s : State) : Bool := s.ccr.getLsbD 8

/-- The flag C = CCR[0] (R26). -/
def State.flagC (s : State) : Bool := s.ccr.getLsbD 0

/-- The flag V = CCR[1] (R26). -/
def State.flagV (s : State) : Bool := s.ccr.getLsbD 1

/-- The flag Z = CCR[2] (R26). -/
def State.flagZ (s : State) : Bool := s.ccr.getLsbD 2

/-- The flag N = CCR[3] (R26). -/
def State.flagN (s : State) : Bool := s.ccr.getLsbD 3

/-- The flag U = CCR[4] (R26). -/
def State.flagU (s : State) : Bool := s.ccr.getLsbD 4

/-- The bit E = CCR[6] (R25). -/
def State.flagE (s : State) : Bool := s.ccr.getLsbD 6

/-- A word with bit `i` replaced. -/
def withBit (x : Half) (i : Nat) (b : Bool) : Half :=
  if b then x ||| (1#16 <<< i) else x &&& ~~~(1#16 <<< i)

/-! ### Control registers (spec/10_state.md R36) -/

/-- Whether a control register is 32 bits wide: the accumulators (R36). -/
def isLongReg : CReg → Bool
  | .ac0 | .ac1 => true
  | _ => false

/-- Whether a transfer into the register is refused (U22). -/
def isProtected : CReg → Bool
  | .pc | .dcsr | .ss | .csl | .csh => true
  | _ => false

/-- The value of a control register, zero-extended to 32 bits. `SS`, `CSL` and `CSH` are the entry
at the current pointer (R36), which the read does not move. DEDUCED (log 25), unsafe. -/
def State.readCReg (s : State) : CReg → Long
  | .a n => (s.a[n.toNat]'n.isLt).setWidth 32
  | .m n => (s.m[n.toNat]'n.isLt).setWidth 32
  | .atReg => s.atReg.setWidth 32
  | .pc => s.pc.setWidth 32
  | .sp => s.sp.setWidth 32
  | .ss => (s.ss[s.sp.toNat]'s.sp.isLt).setWidth 32
  | .la => s.la.setWidth 32
  | .lc => s.lc.setWidth 32
  | .cp => s.cp.setWidth 32
  | .csl => (s.csl[s.cp.toNat]'s.cp.isLt).setWidth 32
  | .csh => (s.csh[s.cp.toNat]'s.cp.isLt).setWidth 32
  | .sr => s.sr.setWidth 32
  | .dcsr => s.dcsr.setWidth 32
  | .ccr => s.ccr.setWidth 32
  | .ac0 => s.ac0
  | .ac1 => s.ac1

/-- The group of a control register, which `sc` selects: 0 for the AGU/AGU-Y registers A, M and AT,
1 for the PCU/ALU registers (R36). -/
def groupOf : CReg → Bool
  | .a _ | .m _ | .atReg => false
  | _ => true

/-- The control register `rc(sc, idx)` (R36): the entry of this launch's table, if it is a register of
the group that `sc` selects. -/
def State.rcAt (s : State) (sc : Bool) (idx : BitVec 5) : Option CReg :=
  (s.launch.rc[(BitVec.ofBool sc ++ idx).toNat]'(BitVec.ofBool sc ++ idx).isLt).filter
    fun c => groupOf c == sc

/-! ### The stacks (spec/10_state.md R31, R33) -/

/-- Push on the system stack: write at SP, then SP + 1 modulo 16 (R31, U11). -/
def State.pushSS (s : State) (v : Half) : State :=
  { s with ss := s.ss.set s.sp.toNat v s.sp.isLt, sp := s.sp + 1 }

/-- The top entry of the system stack, `SS[(SP - 1)[3:0]]` (R31). -/
def State.topSS (s : State) : Half := s.ss[(s.sp - 1).toNat]'(s.sp - 1).isLt

/-- Drop the top entry of the system stack: SP - 1 modulo 16 (R31, U11). -/
def State.dropSS (s : State) : State := { s with sp := s.sp - 1 }

/-- Save LA and LC on the loop stacks: write at CP, then CP + 1 modulo 8 (R33, U11). -/
def State.pushLoop (s : State) : State :=
  { s with
    csl := s.csl.set s.cp.toNat s.la s.cp.isLt
    csh := s.csh.set s.cp.toNat s.lc s.cp.isLt
    cp := s.cp + 1 }

/-- Restore LA and LC from the loop stacks: CP - 1 modulo 8, then read at the new CP (R33, U11). -/
def State.popLoop (s : State) : State :=
  { s with
    la := s.csl[(s.cp - 1).toNat]'(s.cp - 1).isLt
    lc := s.csh[(s.cp - 1).toNat]'(s.cp - 1).isLt
    cp := s.cp - 1 }

/-- A loop is active: LC[15] or LC[14] (R33). -/
def State.loopActive (s : State) : Bool := s.lc.getLsbD 15 || s.lc.getLsbD 14

/-! ### What the parts of an instruction write -/

/-- The flags that one operation writes; `none` for a flag it leaves (spec/10_state.md R45). -/
structure FlagUpd where
  u : Option Bool := none
  n : Option Bool := none
  z : Option Bool := none
  v : Option Bool := none
  c : Option Bool := none
  e : Option Bool := none
deriving DecidableEq, Repr, Inhabited

/-- Everything the parts of one instruction write, computed from the state before it
(spec/30_encoding.md R133): 16-bit data registers, control registers, flags, one data word. -/
structure Effect where
  regs : List (RegNo × Half) := []
  ctrl : List (CReg × Long) := []
  flags : List FlagUpd := []
  mem : Option (Half × Long) := none
deriving DecidableEq, Repr, Inhabited

/-- The writes of two parts of one instruction. At most one part of an instruction stores
(spec/20_memory.md R80). -/
def Effect.and (e f : Effect) : Effect where
  regs := e.regs ++ f.regs
  ctrl := e.ctrl ++ f.ctrl
  flags := e.flags ++ f.flags
  mem := e.mem <|> f.mem

/-- The writes of `R[n] <- v`. -/
def write16 (n : RegNo) (v : Half) : List (RegNo × Half) := [(n, v)]

/-- The writes of `RL[n] <- v` (spec/10_state.md R21). -/
def write32 (n : RegNo) (v : Long) : List (RegNo × Half) :=
  [(n, v.extractLsb' 0 16), (n + 1, v.extractLsb' 16 16)]

/-- The writes of `RD[n] <- v` (spec/10_state.md R22). -/
def write64 (n : RegNo) (v : Dbl) : List (RegNo × Half) :=
  write32 n (v.extractLsb' 0 32) ++ write32 (n + 2) (v.extractLsb' 32 32)

/-- One of the competing values of a location, or its old value when nothing writes it
(spec/93_implementation_defined.md U3, U18). -/
def resolve {α : Type} (pick : Nat) (old : α) : List α → α
  | [] => old
  | [v] => v
  | v :: w :: vs => (v :: w :: vs).getD (pick % (vs.length + 2)) v

/-- The free choice for the location `key` in this step (log 21). -/
def State.pick (s : State) (key : Nat) : Nat := Config.draw s.draws key

/-- The location number of a control register, for `State.pick`. -/
def cregKey : CReg → Nat
  | .a n => 32 + n.toNat
  | .m n => 40 + n.toNat
  | .atReg => 48
  | .pc => 49
  | .sp => 50
  | .ss => 51
  | .la => 52
  | .lc => 53
  | .cp => 54
  | .csl => 55
  | .csh => 56
  | .sr => 57
  | .dcsr => 58
  | .ccr => 59
  | .ac0 => 60
  | .ac1 => 61

/-- The values the parts write to a data register. -/
def Effect.regVals (e : Effect) (n : RegNo) : List Half :=
  e.regs.filterMap fun w => if w.1 = n then some w.2 else none

/-- The values the parts write to a control register. -/
def Effect.ctrlVals (e : Effect) (c : CReg) : List Long :=
  e.ctrl.filterMap fun w => if w.1 = c then some w.2 else none

/-- A control register after the writes of the parts. -/
def Effect.creg (e : Effect) (s : State) (c : CReg) : Long :=
  resolve (s.pick (cregKey c)) (s.readCReg c) (e.ctrlVals c)

/-- CCR with flag `i` as the operations of the instruction write it. A flag that several parts
write, a transfer into CCR being one of them, takes any value among theirs (spec/10_state.md R46,
U3). -/
def Effect.setFlag (e : Effect) (s : State) (i : Nat) (get : FlagUpd → Option Bool) (base : Half) :
    Half :=
  match e.flags.filterMap get with
  | [] => base
  | v :: vs =>
    withBit base i (resolve (s.pick (64 + i)) v
      ((v :: vs) ++ (e.ctrlVals .ccr).map fun t => t.getLsbD i))

/-- CCR after the instruction: a transfer into CCR replaces all its bits (spec/10_state.md R25),
then the flags (R46). -/
def Effect.ccr (e : Effect) (s : State) : Half :=
  e.setFlag s 0 (·.c) <| e.setFlag s 1 (·.v) <| e.setFlag s 2 (·.z) <| e.setFlag s 3 (·.n) <|
  e.setFlag s 4 (·.u) <| e.setFlag s 6 (·.e) <| (e.creg s .ccr).setWidth 16

/-- All writes of one instruction land together (spec/30_encoding.md R133). A register that several
parts write takes any of their values (spec/47_move_to_notl.md R416, U18). -/
def commit (s : State) (e : Effect) : State :=
  { s with
    regs := Vector.ofFn fun i =>
      resolve (s.pick i.val) s.regs[i] (e.regVals (BitVec.ofFin i))
    ac0 := e.creg s .ac0
    ac1 := e.creg s .ac1
    ccr := e.ccr s
    sr := (e.creg s .sr).setWidth 16
    sp := (e.creg s .sp).setWidth 4
    la := (e.creg s .la).setWidth 16
    lc := (e.creg s .lc).setWidth 16
    cp := (e.creg s .cp).setWidth 3
    a := Vector.ofFn fun i => (e.creg s (.a (BitVec.ofFin i))).setWidth 16
    m := Vector.ofFn fun i => (e.creg s (.m (BitVec.ofFin i))).setWidth 16
    atReg := (e.creg s .atReg).setWidth 16
    dmem := match e.mem with
      | none => s.dmem
      | some (addr, v) => s.dmem.writeWord addr.toNat v }

/-! ### The end of a step (spec/00_scope.md R9) -/

/-- Where control goes after an instruction (spec/00_scope.md R9). -/
inductive Ctl where
  | fallthrough
  | goto (x : Half)
  | delayed (x : Half)
deriving DecidableEq, Repr, Inhabited

/-- The end-of-loop step after the instruction at LA (spec/43_cvef_to_eorl.md R301); `next` is the
address behind it. -/
def State.endOfLoop (s : State) (next : Half) : State :=
  if s.lc.getLsbD 15 then { s with pc := s.topSS }
  else if 1 < (s.lc.extractLsb' 0 14).toNat then
    { s with lc := s.lc.extractLsb' 14 2 ++ (s.lc.extractLsb' 0 14 - 1), pc := s.topSS }
  else { s.dropSS.popLoop with pc := next }

/-- The program counter moves on: a pending delayed transfer first, then the instruction's own
transfer of control, then the end-of-loop check, which reads LA and LC after the instruction's
writes (spec/00_scope.md R9). `len` is the instruction's length in words. -/
def advance (len : Half) (ctl : Ctl) (s : State) : State :=
  let s := { s with draws := s.draws + 1 }
  match s.delay with
  | some t => { s with pc := t, delay := none }
  | none =>
    match ctl with
    | .goto x => { s with pc := x }
    | .delayed x => { s with pc := s.pc + len, delay := some x }
    | .fallthrough =>
      if s.loopActive && s.pc == s.la then s.endOfLoop (s.pc + len)
      else { s with pc := s.pc + len }

/-! ### Parts and outcomes -/

/-- One part of an instruction: what it writes, or why it stops. -/
abbrev Part := Host.Outcome Effect Fault Refusal

/-- What a step, or one instruction, answers. -/
abbrev Outcome := Host.Outcome State Fault Refusal

/-- A part that writes nothing. -/
def idle : Part := .next {}

/-- Two parts that execute together (spec/47_move_to_notl.md R416). -/
def both : Part → Part → Part
  | .next e, .next f => .next (e.and f)
  | .next _, p => p
  | .fault r, _ => .fault r
  | .refused r, _ => .refused r

/-- A part under a condition: no effect at all when it is false (spec/30_encoding.md R120). -/
def guarded (b : Bool) : Part → Part
  | .next e => .next (if b then e else {})
  | .fault r => if b then .fault r else .next {}
  | .refused r => if b then .refused r else .next {}

/-- `cond(cc, CCR)`: 1111 is always true (spec/30_encoding.md R120). -/
def State.holds (s : State) (cc : Cond) : Bool := cc == 0b1111#4 || Config.cond cc s.ccr

/-- A whole instruction that does not transfer control, of `len` words. -/
def finish (s : State) (len : Half) : Part → Outcome
  | .next e => .next (advance len .fallthrough (commit s e))
  | .fault r => .fault r
  | .refused r => .refused r

end Sys2Proof.Machine
end

