-- ==== Sys2Proof/Machine/Flags.lean ====
section
/-! DEFINITION. The flag computations of spec/10_state.md R40 to R44: unnormalised, negative, zero,
overflow and carry of a result at its width. -/

namespace Sys2Proof.Machine

/-- U: the two top bits of the result are equal (R40). -/
def unnorm {n : Nat} (r : BitVec n) : Bool := r.msb == r.getLsbD (n - 2)

/-- V: an exact result does not fit `n` bits in two's complement (R43). -/
def overflows (n : Nat) (x : Int) : Bool := decide (x < -(2 : Int) ^ (n - 1)) || decide ((2 : Int) ^ (n - 1) ≤ x)

/-- C of `a + b + cin`: the carry out of the top bit (R44). -/
def addCarry {n : Nat} (a b : BitVec n) (cin : Bool) : Bool :=
  decide (2 ^ n ≤ a.toNat + b.toNat + cin.toNat)

/-- C of `b - a - (~cin)`, computed as `b + ~a + cin`; 1 when no borrow occurs (R44). -/
def subCarry {n : Nat} (b a : BitVec n) (cin : Bool) : Bool := addCarry b (~~~a) cin

/-- U, N and Z of a result at its own width (R40, R41, R42). -/
def flagsUNZ {n : Nat} (r : BitVec n) : FlagUpd where
  u := some (unnorm r)
  n := some r.msb
  z := some (r == 0)

/-- U, N, Z, V and C of a result; `none` for a V or a C that is not written. -/
def flagsVC {n : Nat} (r : BitVec n) (v c : Option Bool) : FlagUpd :=
  { flagsUNZ r with v := v, c := c }

/-- N, Z and V of a float result (spec/44_fadd_to_ftst.md R320). -/
def flagsFloat (d : Long) : FlagUpd where
  n := some d.msb
  z := some (d.extractLsb' 0 31 == 0)
  v := some (d.extractLsb' 23 8 == 0xFF)

end Sys2Proof.Machine
end

