-- ==== Sys2Proof/Machine/Operands.lean ====
section
/-! DEFINITION. The operand forms: how the fields of a format bind to the operands of an operation
(spec/30_encoding.md R117 to R121, R130, R131), the address generators (spec/20_memory.md R72, R75)
and the data transfers (spec/47_move_to_notl.md R411 to R415). -/

namespace Sys2Proof.Machine

/-! ### Operands of an operation -/

/-- Where the first operand comes from: a register, the immediate `#5`, or `#16`/`#32`. -/
inductive Src where
  | reg (n : RegNo)
  | imm5 (k : BitVec 5)
  | imm (v : Long)
deriving DecidableEq, Repr, Inhabited

/-- The first operand field as a source (spec/30_encoding.md R118). -/
def Src.ofOpnd : Opnd → Src
  | .reg n => .reg n
  | .imm5 k => .imm5 k

/-- The operands of one operation: first source, second source, destination, whether the form is
three-address (R130), and whether Scaling is on (R121). In a two-address form the second source is
the destination. -/
structure Binding where
  fst : Src
  snd : RegNo
  dst : RegNo
  three : Bool := false
  scale : Bool := false
deriving DecidableEq, Repr, Inhabited

/-- A three-address binding (R130). -/
def Binding.threeAddr (fst : Src) (snd dst : RegNo) (scale : Bool) : Binding :=
  { fst, snd, dst, three := true, scale }

/-- A two-address binding (R130). -/
def Binding.twoAddr (fst : Src) (dst : RegNo) : Binding := { fst, snd := dst, dst }

/-- The first operand as a `short`; an immediate `#5` is zero-extended (R118). -/
def Binding.fst16 (b : Binding) (s : State) : Half :=
  match b.fst with
  | .reg n => s.r16 n
  | .imm5 k => k.setWidth 16
  | .imm v => v.setWidth 16

/-- The first operand as a `long`; an immediate `#5` is zero-extended (R118). -/
def Binding.fst32 (b : Binding) (s : State) : Long :=
  match b.fst with
  | .reg n => s.r32 n
  | .imm5 k => k.setWidth 32
  | .imm v => v

/-- The register of the first operand, for the operations that write back to it (R209 to R211). -/
def Binding.fstReg (b : Binding) : RegNo :=
  match b.fst with
  | .reg n => n
  | .imm5 k => k
  | .imm _ => b.dst

/-- The second source as a `short`. -/
def Binding.snd16 (b : Binding) (s : State) : Half := s.r16 b.snd

/-- The second source as a `long`. -/
def Binding.snd32 (b : Binding) (s : State) : Long := s.r32 b.snd

/-- The destination register's old value as a `short`. -/
def Binding.dst16 (b : Binding) (s : State) : Half := s.r16 b.dst

/-- The destination register's old value as a `long`. -/
def Binding.dst32 (b : Binding) (s : State) : Long := s.r32 b.dst

/-- The exact result under Scaling: `scaled(op, x)` when M = 1, `x` itself when M = 0 (R121). -/
def Binding.scaled (b : Binding) (op : Op) (x : Int) : Int :=
  if b.scale then Config.scaled op x else x

/-- An operation as one part of an instruction: what it writes, from the state before it. -/
abbrev Alu := State → Binding → Part

/-! ### Address generation (spec/20_memory.md R72, R75) -/

/-- The registers an address generator reads. -/
def State.agu (s : State) : Config.AguState := { a := s.a, m := s.m, atReg := s.atReg }

/-- The writes of all modifier registers. An open address generator counts as writing AT and every
modifier register, changed or not, so where both generators of a format 8a instruction are open the
register takes either value (spec/93_implementation_defined.md U18). DESIGN CHOICE (log 53), safe: the
spec does not say how the two states combine. -/
def modifierWrites (m : Vector Half 8) : List (CReg × Long) :=
  (List.range 8).map fun i => (CReg.m (BitVec.ofNat 3 i), (m.getD i 0).setWidth 32)

/-- `agu(A, mode, u, imm, AGUstate)`: the address and the writes of AGU registers. The modes of
assumptions (3), (4) and (5) are computed, every other one is open (R72, log 12) and then counts as
writing AT and the modifier registers (log 53). -/
def State.aguX (s : State) (n : BitVec 3) (mode : BitVec 3) (u : Bool) (imm : Half) :
    Half × List (CReg × Long) :=
  let base := s.a[n.toNat]'n.isLt
  if mode = s.launch.modeImm then (base + imm, [])
  else if mode = s.launch.modeInd then (base, [])
  else if mode = s.launch.modeInc ∧ u = s.launch.neutralU
      ∧ s.m[n.toNat]'n.isLt = s.launch.neutralM then
    (base, [(.a n, (base + 1).setWidth 32)])
  else
    let g := Config.agu n mode u imm s.agu
    (g.addr, (.a n, g.base.setWidth 32) :: (.atReg, g.atReg.setWidth 32) :: modifierWrites g.m)

/-- `agu_y(AT field, AGUstate)`: for the form `(AT)` the address is AT and nothing changes (R75); every
other one is open (log 13) and then counts as writing AT and the modifier registers (log 53). -/
def State.aguY (s : State) (at2 : BitVec 2) : Half × List (CReg × Long) :=
  if at2 = s.launch.atInd then (s.atReg, [])
  else
    let g := Config.aguY at2 s.agu
    (g.addr, (.atReg, g.base.setWidth 32) :: modifierWrites g.m)

/-! ### The data transfers -/

/-- The transfer between data memory and `RL[2 * r]` (spec/47_move_to_notl.md R411); an address
outside both regions leaves the core stuck (spec/20_memory.md R79). -/
def xferX (s : State) (imm : Half) (x : XferX) : Part :=
  let g := s.aguX x.a x.mode x.u imm
  if s.inX g.1 then
    if x.de then .next { regs := write32 (longReg x.r) (s.data g.1), ctrl := g.2 }
    else .next { ctrl := g.2, mem := some (g.1, s.r32 (longReg x.r)) }
  else .fault (.dataOutside g.1)

/-- The transfer from Y memory to `RL[0]` (spec/47_move_to_notl.md R412); the field 00 is no
transfer (spec/20_memory.md R75). -/
def xferY (s : State) (at2 : BitVec 2) : Part :=
  if at2 = 0 then idle
  else
    let g := s.aguY at2
    if s.inY g.1 then .next { regs := write32 0 (s.data g.1), ctrl := g.2 }
    else .fault (.dataOutside g.1)

/-- The transfer between data registers (spec/47_move_to_notl.md R413). -/
def xferRR (s : State) (x : XferRR) : Part :=
  if x.l then .next { regs := write32 x.rd (s.r32 x.rs) }
  else .next { regs := write16 x.rd (s.r16 x.rs) }

/-- The transfer between a data register and a control register (spec/47_move_to_notl.md R414).
It is refused for a number that names no register (U17), for a destination PC, DCSR, SS, CSL or CSH
(U22), and for an odd data register beside an accumulator (spec/10_state.md R21, U2). -/
def xferRC (s : State) (x : XferRC) : Part :=
  match s.rcAt x.sc x.rc with
  | none => .refused .rcUnassigned
  | some c =>
    if isLongReg c && !isEven x.r then .refused .oddRegister
    else if x.de then
      if isLongReg c then .next { regs := write32 x.r (s.readCReg c) }
      else .next { regs := write16 x.r ((s.readCReg c).setWidth 16) }
    else if isProtected c then .refused (.protectedDestination c)
    else if isLongReg c then .next { ctrl := [(c, s.r32 x.r)] }
    else .next { ctrl := [(c, (s.r16 x.r).setWidth 32)] }

/-- The write of an immediate to a control register, at the register's width
(spec/47_move_to_notl.md R415, R419). -/
def xferImmRC (s : State) (sc : Bool) (idx : BitVec 5) (imm : Long) : Part :=
  match s.rcAt sc idx with
  | none => .refused .rcUnassigned
  | some c => if isProtected c then .refused (.protectedDestination c) else .next { ctrl := [(c, imm)] }

/-- The immediate transfer of format 7 (spec/47_move_to_notl.md R415). -/
def xferImm (s : State) (x : XferImm) : Part :=
  if x.sr then xferImmRC s x.lsc x.rd x.imm
  else if x.lsc then .next { regs := write32 x.rd x.imm }
  else .next { regs := write16 x.rd (x.imm.setWidth 16) }

/-! ### The frames of format 8 and the formats of one operation -/

/-- Whether the sub-format carries a Y transfer (spec/20_memory.md R75). -/
def usesY : Frame → Bool
  | .a at2 _ | .b at2 _ => at2 != 0
  | .c .. | .d _ => false

/-- Whether the source of the first transfer is a data register. -/
def readsRegister : Frame → Bool
  | .a _ x => !x.de
  | .b .. | .c .. => true
  | .d x => !x.de

/-- The operations whose second result is a register of its own while DD = 0 and that carry the
footnote on the Y transfer (spec/70_reset_and_hazards.md R555). -/
def clashesWithY (op : Op) : Bool :=
  op == .addsub || op == .addsubl || op == .addsubx || op == .cvfe

/-- What a program may not combine in one instruction (spec/70_reset_and_hazards.md R555): ASRLE
beside INSL, INSL beside a transfer whose source is a data register (U9), and a Y transfer beside
ADDSUB, ADDSUBL, ADDSUBX or CVFE while DD = 0 (U7). -/
def frameStop (s : State) (op1 op2 : Op) (fr : Frame) : Option Refusal :=
  if op1 == .insl && op2 == .asrle then some .asrleWithInsl
  else if op1 == .insl && readsRegister fr then some .inslWithRegisterSource
  else if clashesWithY op1 && usesY fr && !s.dd then some .yTransferWithDD0
  else none

/-- The parts of a format 8 instruction together; in 8c the condition governs OP2 and the transfer
(spec/30_encoding.md R116, spec/47_move_to_notl.md R413). -/
def frameParts (s : State) (p1 p2 : Part) : Frame → Part
  | .a at2 x => both p1 (both p2 (both (xferX s 0 x) (xferY s at2)))
  | .b at2 x => both p1 (both p2 (both (xferRR s x) (xferY s at2)))
  | .c cc rs rd =>
    both p1 (guarded (s.holds cc) (both p2 (xferRR s ⟨longReg rs, longReg rd, true⟩)))
  | .d x => both p1 (both p2 (xferRC s x))

/-- A format 8 instruction, two words long (spec/30_encoding.md R115, R116). -/
def runFrame (s : State) (op1 op2 : Op) (p1 p2 : Part) (fr : Frame) : Outcome :=
  match frameStop s op1 op2 fr with
  | some r => .refused r
  | none => finish s 2 (frameParts s p1 p2 fr)

/-- An ALU operation in one of its formats: the operands it binds, the condition, the transfer
beside it and the instruction's length (spec/30_encoding.md R102 to R116, R130). -/
def runForm (op : Op) (alu : Alu) (f : Form) (s : State) : Outcome :=
  match f with
  | .f1 cc s1 s2 d =>
    finish s 1 (guarded (s.holds cc) (alu s (.threeAddr (.ofOpnd s1) s2 d false)))
  | .f2 cc imm s2 d => finish s 2 (guarded (s.holds cc) (alu s (.threeAddr (.imm imm) s2 d false)))
  | .f3 imm d => finish s 1 (alu s (.twoAddr (.imm (imm.setWidth 32)) d))
  | .f4 s1 d x => finish s 1 (both (alu s (.twoAddr (.ofOpnd s1) d)) (xferX s 0 x))
  | .f5 s1 d x => finish s 1 (both (alu s (.twoAddr (.ofOpnd s1) d)) (xferRR s x))
  | .f6 s1 d x => finish s 1 (both (alu s (.twoAddr (.ofOpnd s1) d)) (xferRC s x))
  | .f7 cc s1 d x =>
    finish s 2 (guarded (s.holds cc) (both (alu s (.twoAddr (.reg s1) d)) (xferImm s x)))
  | .f8 .op1 m s1 s2 d fr =>
    runFrame s op .nop (alu s (.threeAddr (.ofOpnd s1) s2 d m)) idle fr
  | .f8 .op2 m s1 s2 d fr =>
    runFrame s .nop op idle (alu s (.threeAddr (.ofOpnd s1) s2 d m)) fr

end Sys2Proof.Machine
end

