-- ==== Sys2Proof/Machine/Flow.lean ====
section
/-! DEFINITION. Program flow and the empty operation: B, BD, BS (spec/42_b_to_cs2.md R260 to R262),
DO, DOFOR, ENDDO (spec/43_cvef_to_eorl.md R298 to R300), J, JD, JS (spec/45_inc_to_lsrx.md R353 to
R355), NOP (spec/47_move_to_notl.md R431), RTS, STOP (spec/49_rts_to_tstx.md R480, R487). -/

namespace Sys2Proof.Machine

/-- The value of a branch or jump operand: the immediate, or the address register
(spec/30_encoding.md R107, R108). -/
def State.target (s : State) : Target → Half
  | .imm v => v
  | .areg n => s.a[n.toNat]'n.isLt

/-- A program-flow instruction of `len` words: refused in a delay slot
(spec/93_implementation_defined.md U10); under a false condition it falls through with no other
effect (spec/30_encoding.md R120); otherwise control goes as `ctl` says from the state `t` with the
instruction's writes. -/
def flow (s : State) (b : Bool) (len : Half) (ctl : Ctl) (t : State) : Outcome :=
  match s.delay with
  | some _ => .refused .flowInDelaySlot
  | none => .next (if b then advance len ctl t else advance len .fallthrough s)

/-- B (R260). -/
def execB (cc : Cond) (t : Target) (s : State) : Outcome :=
  flow s (s.holds cc) 1 (.goto (s.pc + s.target t)) s

/-- BD (R261): the target is relative to the BD itself and waits for the next instruction. -/
def execBd (cc : Cond) (t : Target) (s : State) : Outcome :=
  flow s (s.holds cc) 1 (.delayed (s.pc + s.target t)) s

/-- BS (R262): the address behind it goes on the system stack. -/
def execBs (cc : Cond) (t : Target) (s : State) : Outcome :=
  flow s (s.holds cc) 1 (.goto (s.pc + s.target t)) (s.pushSS (s.pc + 1))

/-- J (R353). -/
def execJ (cc : Cond) (t : Target) (s : State) : Outcome :=
  flow s (s.holds cc) 1 (.goto (s.target t)) s

/-- JD (R354): the target waits for the next instruction. -/
def execJd (cc : Cond) (t : Target) (s : State) : Outcome :=
  flow s (s.holds cc) 1 (.delayed (s.target t)) s

/-- JS (R355): the address behind it goes on the system stack. -/
def execJs (cc : Cond) (t : Target) (s : State) : Outcome :=
  flow s (s.holds cc) 1 (.goto (s.target t)) (s.pushSS (s.pc + 1))

/-- RTS (R480): to the top entry of the system stack, which it drops. -/
def execRts (cc : Cond) (s : State) : Outcome :=
  flow s (s.holds cc) 1 (.goto s.topSS) s.dropSS

/-- STOP (R487, spec/70_reset_and_hazards.md R552): RUN becomes 0, STP becomes 1, the program counter is
the address of STOP + 1 and all other state stays. As the last instruction of an active loop STOP too
leaves the loop as it is, where spec/00_scope.md R9 has the end-of-loop step. DEDUCED (log 47), unsafe. -/
def execStop (s : State) : Outcome :=
  flow s true 1 (.goto (s.pc + 1)) { s with dcsr := withBit (withBit s.dcsr 14 false) 3 true }

/-- The set-up of a loop: the address behind the instruction on the system stack, LA and LC on the
loop stacks, then the new LA and LC (R298). -/
def State.enterLoop (s : State) (len last lc : Half) : State :=
  { (s.pushSS (s.pc + len)).pushLoop with la := last, lc := lc }

/-- DO with a count: refused for a count of 0 (U13); LC is `{0b01, count}` (R298). -/
def doLoop (s : State) (len : Half) (count : BitVec 14) (last : Half) : Outcome :=
  match s.delay with
  | some _ => .refused .flowInDelaySlot
  | none =>
    if count = 0 then .refused .loopCountZero
    else .next (advance len .fallthrough (s.enterLoop len last (0b01#2 ++ count)))

/-- DO #N with an absolute last address (R298). -/
def execDoNAbs (n : BitVec 14) (last : Half) (s : State) : Outcome := doLoop s 2 n last

/-- DO #N with a PC-relative last address (R298). -/
def execDoNRel (n : BitVec 14) (last : Half) (s : State) : Outcome := doLoop s 2 n (s.pc + last)

/-- DO d with an absolute last address; the count is `R[d][13:0]` (R298). -/
def execDoDAbs (d : RegNo) (last : Half) (s : State) : Outcome :=
  doLoop s 1 ((s.r16 d).extractLsb' 0 14) last

/-- DO d with a PC-relative last address (R298). -/
def execDoDRel (d : RegNo) (last : Half) (s : State) : Outcome :=
  doLoop s 1 ((s.r16 d).extractLsb' 0 14) (s.pc + last)

/-- DOFOR with an absolute last address (R299). -/
def execDoforAbs (last : Half) (s : State) : Outcome :=
  flow s true 1 .fallthrough (s.enterLoop 1 last 0x8000)

/-- DOFOR with a PC-relative last address (R299). -/
def execDoforRel (last : Half) (s : State) : Outcome :=
  flow s true 1 .fallthrough (s.enterLoop 1 (s.pc + last) 0x8000)

/-- Whether the program memory has a word at an address (spec/20_memory.md R79). -/
def State.inProgram (s : State) (addr : Half) : Bool := decide (addr.toNat < s.launch.pramWords)

/-- The program word at an address (spec/20_memory.md R78). -/
def State.fetch (s : State) (addr : Half) : Long := s.pmem.readWord addr.toNat

/-- The length of the instruction at LA, from its first word (spec/30_encoding.md R132). Where LA is
outside the program memory either length. DESIGN CHOICE (log 31), safe. -/
def State.lastLength (s : State) : Half :=
  if s.inProgram s.la then lengthOf s.launch (s.fetch s.la)
  else resolve (s.pick 97) 1 [1, 2]

/-- ENDDO (R300): behind the last instruction of the innermost loop, which it leaves. -/
def execEnddo (s : State) : Outcome :=
  flow s true 1 (.goto (s.la + s.lastLength)) s.dropSS.popLoop

/-- NOP in format 3 (R431). -/
def execNop (s : State) : Outcome := finish s 1 idle

end Sys2Proof.Machine
end

