-- ==== Sys2Proof/Machine/Move.lean ====
section
/-! DEFINITION. The transfers that are instructions of their own: MOVE in formats 2t, 6t and 7t and
MOVE #16 to a control register (spec/47_move_to_notl.md R418, R419). -/

namespace Sys2Proof.Machine

/-- MOVE (R418): the whole transfer under one condition. -/
def execMove (f : MoveForm) (s : State) : Outcome :=
  match f with
  | .rr cc x => finish s 1 (guarded (s.holds cc) (xferRR s x))
  | .rc cc x => finish s 1 (guarded (s.holds cc) (xferRC s x))
  | .mem cc x => finish s 1 (guarded (s.holds cc) (xferX s 0 x))
  | .memImm cc r a u de imm =>
    finish s 2 (guarded (s.holds cc) (xferX s imm ⟨r, a, s.launch.modeImm, u, de⟩))

/-- MOVE #16 to a register of the AGU/AGU-Y group (R419). -/
def execMove16Agu (d : BitVec 5) (imm : Half) (s : State) : Outcome :=
  finish s 1 (xferImmRC s false d (imm.setWidth 32))

/-- MOVE #16 to a register of the PCU/ALU group (R419). -/
def execMove16Pcu (d : BitVec 5) (imm : Half) (s : State) : Outcome :=
  finish s 1 (xferImmRC s true d (imm.setWidth 32))

end Sys2Proof.Machine
end

