-- ==== Sys2Proof/Machine/Arith.lean ====
section
/-! DEFINITION. The shared results of the integer operations: an exact result narrowed to its width
with its flags, pairs of 16-bit results, two results of one operation, and rounding. -/

namespace Sys2Proof.Machine

/-- The high half of an X16 operand, its real part (spec/10_state.md R23). -/
def hi16 (x : Long) : Half := x.extractLsb' 16 16

/-- The low half of an X16 operand, its imaginary part (spec/10_state.md R23). -/
def lo16 (x : Long) : Half := x.extractLsb' 0 16

/-- A `short` result from its exact value: scaled, narrowed to the destination, V on overflow
(spec/10_state.md R43, spec/30_encoding.md R121); `c` is C when it is written. -/
def arith16 (op : Op) (b : Binding) (x : Int) (c : Option Bool) : Part :=
  let y := b.scaled op x
  let r := BitVec.ofInt 16 y
  .next { regs := write16 b.dst r, flags := [flagsVC r (some (overflows 16 y)) c] }

/-- A `long` result from its exact value, as `arith16`. -/
def arith32 (op : Op) (b : Binding) (x : Int) (c : Option Bool) : Part :=
  let y := b.scaled op x
  let r := BitVec.ofInt 32 y
  .next { regs := write32 b.dst r, flags := [flagsVC r (some (overflows 32 y)) c] }

/-- A `short` result that is written as it stands, with U, N and Z and perhaps V and C. -/
def bits16 (b : Binding) (r : Half) (v c : Option Bool) : Part :=
  .next { regs := write16 b.dst r, flags := [flagsVC r v c] }

/-- A `long` result that is written as it stands, with U, N and Z and perhaps V and C. -/
def bits32 (b : Binding) (r : Long) (v c : Option Bool) : Part :=
  .next { regs := write32 b.dst r, flags := [flagsVC r v c] }

/-- Flags alone, for the operations that write no register. -/
def flagsOnly (f : FlagUpd) : Part := .next { flags := [f] }

/-- The flags of a pair of 16-bit results, the real one `r` and the imaginary one `i`: U = Ur & Ui
and N = Nr, with Z, V and C as given (spec/40_abs_to_ad1.md R212). -/
def flagsPair (r i : Half) (z : Bool) (v c : Option Bool) : FlagUpd where
  u := some (unnorm r && unnorm i)
  n := some r.msb
  z := some z
  v := v
  c := c

/-- The flags of two halves as they stand: U = Ur & Ui, N = Nr, Z = Zr, V = Zi, C = Ni
(spec/43_cvef_to_eorl.md R296, spec/49_rts_to_tstx.md R498). -/
def flagsHalves (r i : Half) : FlagUpd := flagsPair r i (r == 0) (some (i == 0)) (some i.msb)

/-- The flags of ASH and SAH: U = U+ & U-, Z = Z+, with N, V and C as given
(spec/41_and_to_asrx.md R235, spec/49_rts_to_tstx.md R482). -/
def flagsSumDifSigns (sum dif : Half) (n v c : Bool) : FlagUpd where
  u := some (unnorm sum && unnorm dif)
  n := some n
  z := some (sum == 0)
  v := some v
  c := some c

/-- `rnd16(S, RND)`: the rounding increment, 0 or 1 (spec/48_or_to_rorl.md R462). -/
def rnd16 (x : Long) (rnd : Bool) : Bool :=
  let lo := lo16 x
  if lo.toNat < 0x8000 then false
  else if 0x8000 < lo.toNat then true
  else if rnd then true
  else x.getLsbD 16

/-- The exact value of the rounded high half, `S[31:16] + rnd16(S)` (spec/48_or_to_rorl.md R462). -/
def roundedHigh (x : Long) (rnd : Bool) : Int := (hi16 x).toInt + (rnd16 x rnd).toNat

/-- An exact 32-bit sum or difference `x` rounded to its high half: V is the overflow of the sum or
of the rounding (spec/40_abs_to_ad1.md R207, spec/49_rts_to_tstx.md R490). -/
def roundLong (op : Op) (s : State) (b : Binding) (x : Int) (c : Bool) : Part :=
  let y := b.scaled op (roundedHigh (BitVec.ofInt 32 x) s.rnd * 65536)
  let r := BitVec.ofInt 32 y
  .next { regs := write32 b.dst r
          flags := [flagsVC r (some (overflows 32 x || overflows 32 y)) (some c)] }

/-- As `roundLong`, keeping the 16-bit rounded value: it goes to the 16-bit register `dst`, which is
the low half of the destination in the two-address formats (spec/40_abs_to_ad1.md R208,
spec/49_rts_to_tstx.md R491). -/
def roundShort (op : Op) (s : State) (b : Binding) (x : Int) (c : Bool) : Part :=
  let y := b.scaled op (roundedHigh (BitVec.ofInt 32 x) s.rnd)
  let r := BitVec.ofInt 16 y
  .next { regs := write16 b.dst r
          flags := [flagsVC r (some (overflows 32 x || overflows 16 y)) (some c)] }

/-- Two 32-bit results for two register pairs. When both name the same pair it takes either of the
two results (spec/93_implementation_defined.md U8). -/
def writeTwo32 (s : State) (n1 : RegNo) (v1 : Long) (n2 : RegNo) (v2 : Long) :
    List (RegNo × Half) :=
  if n1 = n2 then write32 n1 (resolve (s.pick 96) v1 [v1, v2])
  else write32 n1 v1 ++ write32 n2 v2

/-- The destinations of the sum and of the difference while DD = 0: `d` and `s2` in a three-address
form, `s` and `d` in a two-address one (spec/40_abs_to_ad1.md R209). -/
def sumDest (b : Binding) : RegNo := if b.three then b.dst else b.fstReg

/-- See `sumDest`. -/
def difDest (b : Binding) : RegNo := if b.three then b.snd else b.dst

end Sys2Proof.Machine
end

