-- ==== Sys2Proof/Machine/Add.lean ====
section
/-! DEFINITION. The instructions ABS to AD1 (spec/40_abs_to_ad1.md R200 to R213). -/

namespace Sys2Proof.Machine

/-- ABS (R200): N and C are not written. -/
def aluAbs : Alu := fun s b =>
  let y := b.scaled .abs (b.fst16 s).toInt.natAbs
  let r := BitVec.ofInt 16 y
  .next { regs := write16 b.dst r
          flags := [{ u := some (unnorm r), z := some (r == 0), v := some (overflows 16 y) }] }

/-- ABSL (R201): N and C are not written. -/
def aluAbsl : Alu := fun s b =>
  let y := b.scaled .absl (b.fst32 s).toInt.natAbs
  let r := BitVec.ofInt 32 y
  .next { regs := write32 b.dst r
          flags := [{ u := some (unnorm r), z := some (r == 0), v := some (overflows 32 y) }] }

/-- ADC (R202): `a + b + C`. -/
def aluAdc : Alu := fun s b =>
  arith16 .adc b ((b.fst16 s).toInt + (b.snd16 s).toInt + s.flagC.toNat)
    (some (addCarry (b.fst16 s) (b.snd16 s) s.flagC))

/-- ADCL (R203): `A + B + C`. -/
def aluAdcl : Alu := fun s b =>
  arith32 .adcl b ((b.fst32 s).toInt + (b.snd32 s).toInt + s.flagC.toNat)
    (some (addCarry (b.fst32 s) (b.snd32 s) s.flagC))

/-- The 16-bit operand of ADC16L extended to 32 bits: by its sign when V = 0, by C when V = 1
(R204). -/
def adc16lExt (s : State) (a : Half) : Long :=
  (if s.flagV then (if s.flagC then 0xFFFF#16 else 0#16) else (if a.msb then 0xFFFF#16 else 0#16)) ++ a

/-- ADC16L (R204): the second source is 32 bits wide, in the two-address form as well: its Operation
formula, though the prose of spec/30_encoding.md R130 counts ADC16L among the operations that read the
low half. DEDUCED from spec/00_scope.md R2 (log 56), unsafe. -/
def aluAdc16l : Alu := fun s b =>
  let x := adc16lExt s (b.fst16 s)
  arith32 .adc16l b (x.toInt + (b.snd32 s).toInt) (some (addCarry x (b.snd32 s) false))

/-- ADD (R205): `a + b`. -/
def aluAdd : Alu := fun s b =>
  arith16 .add b ((b.fst16 s).toInt + (b.snd16 s).toInt)
    (some (addCarry (b.fst16 s) (b.snd16 s) false))

/-- ADDL (R206): `A + B`. -/
def aluAddl : Alu := fun s b =>
  arith32 .addl b ((b.fst32 s).toInt + (b.snd32 s).toInt)
    (some (addCarry (b.fst32 s) (b.snd32 s) false))

/-- ADDLR (R207): `A + B` rounded to its high half. -/
def aluAddlr : Alu := fun s b =>
  roundLong .addlr s b ((b.fst32 s).toInt + (b.snd32 s).toInt)
    (addCarry (b.fst32 s) (b.snd32 s) false)

/-- ADDLRTR (R208): `A + B` rounded to 16 bits. -/
def aluAddlrtr : Alu := fun s b =>
  roundShort .addlrtr s b ((b.fst32 s).toInt + (b.snd32 s).toInt)
    (addCarry (b.fst32 s) (b.snd32 s) false)

/-- The flags of a sum and a difference: U = U+ & U-, N = N+, Z = Z+, V = V+ | V-, C = C+
(R209, R210). -/
def flagsSumDif {n : Nat} (sum dif : BitVec n) (v c : Bool) : FlagUpd where
  u := some (unnorm sum && unnorm dif)
  n := some sum.msb
  z := some (sum == 0)
  v := some v
  c := some c

/-- ADDSUB (R209). DD = 0: sum and difference to two registers. DD = 1: both to one long register,
refused in a two-address format (U6) and for an odd destination (U2). -/
def aluAddsub : Alu := fun s b =>
  let a := b.fst16 s
  let c := b.snd16 s
  let ys := b.scaled .addsub (a.toInt + c.toInt)
  let yd := b.scaled .addsub (c.toInt - a.toInt)
  let sum := BitVec.ofInt 16 ys
  let dif := BitVec.ofInt 16 yd
  let flags := [flagsSumDif sum dif (overflows 16 ys || overflows 16 yd) (addCarry a c false)]
  if s.dd then
    if !b.three then .refused .twoAddressDD1
    else if !isEven b.dst then .refused .oddRegister
    else .next { regs := write32 b.dst (dif ++ sum), flags }
  else .next { regs := write16 (sumDest b) sum ++ write16 (difDest b) dif, flags }

/-- ADDSUBL (R210). DD = 1: the sum is the high word of the 64-bit destination; refused in a
two-address format (U6). -/
def aluAddsubl : Alu := fun s b =>
  let a := b.fst32 s
  let c := b.snd32 s
  let ys := b.scaled .addsubl (a.toInt + c.toInt)
  let yd := b.scaled .addsubl (c.toInt - a.toInt)
  let sum := BitVec.ofInt 32 ys
  let dif := BitVec.ofInt 32 yd
  let flags := [flagsSumDif sum dif (overflows 32 ys || overflows 32 yd) (addCarry a c false)]
  if s.dd then
    if !b.three then .refused .twoAddressDD1
    else .next { regs := write64 b.dst (sum ++ dif), flags }
  else .next { regs := writeTwo32 s (sumDest b) sum (difDest b) dif, flags }

/-- ADDSUBX (R211): half by half; the flag C is the sign of the real difference. -/
def aluAddsubx : Alu := fun s b =>
  let a := b.fst32 s
  let c := b.snd32 s
  let ysr := b.scaled .addsubx ((hi16 a).toInt + (hi16 c).toInt)
  let ysi := b.scaled .addsubx ((lo16 a).toInt + (lo16 c).toInt)
  let ydr := b.scaled .addsubx ((hi16 c).toInt - (hi16 a).toInt)
  let ydi := b.scaled .addsubx ((lo16 c).toInt - (lo16 a).toInt)
  let sr := BitVec.ofInt 16 ysr
  let si := BitVec.ofInt 16 ysi
  let dr := BitVec.ofInt 16 ydr
  let di := BitVec.ofInt 16 ydi
  let flags : List FlagUpd :=
    [{ u := some (unnorm sr && unnorm dr && unnorm si && unnorm di)
       n := some sr.msb
       z := some (sr == 0)
       v := some (overflows 16 ysr || overflows 16 ydr || overflows 16 ysi || overflows 16 ydi)
       c := some dr.msb }]
  if s.dd then
    if !b.three then .refused .twoAddressDD1
    else .next { regs := write64 b.dst ((sr ++ si) ++ (dr ++ di)), flags }
  else .next { regs := writeTwo32 s (sumDest b) (sr ++ si) (difDest b) (dr ++ di), flags }

/-- ADDX (R212): half by half; V = Vr | Vi, Z = Zr, C = Cr. -/
def aluAddx : Alu := fun s b =>
  let a := b.fst32 s
  let c := b.snd32 s
  let yr := b.scaled .addx ((hi16 a).toInt + (hi16 c).toInt)
  let yi := b.scaled .addx ((lo16 a).toInt + (lo16 c).toInt)
  let r := BitVec.ofInt 16 yr
  let i := BitVec.ofInt 16 yi
  .next { regs := write32 b.dst (r ++ i)
          flags := [flagsPair r i (r == 0) (some (overflows 16 yr || overflows 16 yi))
            (some (addCarry (hi16 a) (hi16 c) false))] }

/-- AD1 (R213): `a + b + 1`; C is not written. -/
def aluAd1 : Alu := fun s b =>
  arith16 .ad1 b ((b.fst16 s).toInt + (b.snd16 s).toInt + 1) none

/-- ABS (R200). -/
def execAbs (f : Form) (s : State) : Outcome := runForm .abs aluAbs f s
/-- ABSL (R201). -/
def execAbsl (f : Form) (s : State) : Outcome := runForm .absl aluAbsl f s
/-- ADC (R202). -/
def execAdc (f : Form) (s : State) : Outcome := runForm .adc aluAdc f s
/-- ADCL (R203). -/
def execAdcl (f : Form) (s : State) : Outcome := runForm .adcl aluAdcl f s
/-- ADC16L (R204). -/
def execAdc16l (f : Form) (s : State) : Outcome := runForm .adc16l aluAdc16l f s
/-- ADD (R205). -/
def execAdd (f : Form) (s : State) : Outcome := runForm .add aluAdd f s
/-- ADDL (R206). -/
def execAddl (f : Form) (s : State) : Outcome := runForm .addl aluAddl f s
/-- ADDLR (R207). -/
def execAddlr (f : Form) (s : State) : Outcome := runForm .addlr aluAddlr f s
/-- ADDLRTR (R208). -/
def execAddlrtr (f : Form) (s : State) : Outcome := runForm .addlrtr aluAddlrtr f s
/-- ADDSUB (R209). -/
def execAddsub (f : Form) (s : State) : Outcome := runForm .addsub aluAddsub f s
/-- ADDSUBL (R210). -/
def execAddsubl (f : Form) (s : State) : Outcome := runForm .addsubl aluAddsubl f s
/-- ADDSUBX (R211). -/
def execAddsubx (f : Form) (s : State) : Outcome := runForm .addsubx aluAddsubx f s
/-- ADDX (R212). -/
def execAddx (f : Form) (s : State) : Outcome := runForm .addx aluAddx f s
/-- AD1 (R213). -/
def execAd1 (f : Form) (s : State) : Outcome := runForm .ad1 aluAd1 f s

end Sys2Proof.Machine
end

