-- ==== Sys2Proof/Machine/Compare.lean ====
section
/-! DEFINITION. Compares, extrema, tests, bit counts and normalisation parameters: BTST, BTSTL, CMP,
CMPE, CMPL, CMPM, CMPML, CS2 (spec/42_b_to_cs2.md), MAX, MAXL, MAXM, MAXML, MIN, MINL, MINM, MINML
(spec/46_mac_to_minml.md), PDN, PDNE, PDNL, PDNLE, PDNX (spec/48_or_to_rorl.md), SMB, SMBL, TST,
TSTL, TSTX (spec/49_rts_to_tstx.md). -/

namespace Sys2Proof.Machine

/-- The magnitude of an operand, exact: 0 to `2 ^ (n - 1)` (spec/42_b_to_cs2.md R270). -/
def magnitude {n : Nat} (x : BitVec n) : Nat := x.toInt.natAbs

/-- BTST (R263): only C is written. -/
def aluBtst : Alu := fun s b =>
  let i := ((b.fst16 s).extractLsb' 0 4).toNat
  flagsOnly { c := some ((b.dst16 s).getLsbD i) }

/-- BTSTL (R264): five bits of the number up to 31, four above; only C is written. -/
def aluBtstl : Alu := fun s b =>
  let v := b.fst16 s
  let i := if v.toNat ≤ 31 then (v.extractLsb' 0 5).toNat else (v.extractLsb' 0 4).toNat
  flagsOnly { c := some ((b.dst32 s).getLsbD i) }

/-- CMP (R267): the flags of `d - a`. -/
def aluCmp : Alu := fun s b =>
  let x := (b.dst16 s).toInt - (b.fst16 s).toInt
  flagsOnly (flagsVC (BitVec.ofInt 16 x) (some (overflows 16 x))
    (some (subCarry (b.dst16 s) (b.fst16 s) true)))

/-- CMPL (R269): the flags of `D - A`. -/
def aluCmpl : Alu := fun s b =>
  let x := (b.dst32 s).toInt - (b.fst32 s).toInt
  flagsOnly (flagsVC (BitVec.ofInt 32 x) (some (overflows 32 x))
    (some (subCarry (b.dst32 s) (b.fst32 s) true)))

/-- CMPM (R270): the flags of `|d| - |a|`; V is not written. -/
def aluCmpm : Alu := fun s b =>
  let d := BitVec.ofNat 16 (magnitude (b.dst16 s))
  let a := BitVec.ofNat 16 (magnitude (b.fst16 s))
  flagsOnly (flagsVC (d - a) none (some (subCarry d a true)))

/-- CMPML (R271): the flags of `|D| - |A|`; V is not written. -/
def aluCmpml : Alu := fun s b =>
  let d := BitVec.ofNat 32 (magnitude (b.dst32 s))
  let a := BitVec.ofNat 32 (magnitude (b.fst32 s))
  flagsOnly (flagsVC (d - a) none (some (subCarry d a true)))

/-- CMPE (R268): the greater exponent and the difference; only E is written. -/
def aluCmpe : Alu := fun s b =>
  let a := b.fst16 s
  let c := b.snd16 s
  let g := decide (c.toInt < a.toInt)
  .next { regs := write32 b.dst (if g then (a - c) ++ a else (c - a) ++ c)
          flags := [{ e := some g }] }

/-- CS2 (R272): the greater half of each operand; the selection bits shift into AC0 and AC1. -/
def aluCs2 : Alu := fun s b =>
  let a := b.fst32 s
  let c := b.snd32 s
  let lowA := decide ((hi16 a).toInt < (lo16 a).toInt)
  let lowC := decide ((hi16 c).toInt < (lo16 c).toInt)
  .next { regs := write32 b.dst ((if lowC then lo16 c else hi16 c) ++ (if lowA then lo16 a else hi16 a))
          ctrl := [(.ac0, s.ac0.extractLsb' 0 31 ++ BitVec.ofBool lowA),
                   (.ac1, s.ac1.extractLsb' 0 31 ++ BitVec.ofBool lowC)]
          flags := [{ n := some !lowC, c := some !lowA }] }

/-- Select the first operand when `g` holds, else the second; C is `g`, V is not written
(spec/46_mac_to_minml.md R384). In the two-address form the second operand is the old d, and where `g`
fails its write competes with that of a transfer into d beside it (U18), although R384 also says that d
is not changed. DESIGN CHOICE (log 59), safe. -/
def select16 (s : State) (b : Binding) (g : Bool) : Part :=
  bits16 b (if g then b.fst16 s else b.snd16 s) none (some g)

/-- As `select16` on 32 bits (spec/46_mac_to_minml.md R385), with the same choice (log 59). -/
def select32 (s : State) (b : Binding) (g : Bool) : Part :=
  bits32 b (if g then b.fst32 s else b.snd32 s) none (some g)

/-- MAX (R384). -/
def aluMax : Alu := fun s b => select16 s b (decide ((b.snd16 s).toInt < (b.fst16 s).toInt))

/-- MAXL (R385). -/
def aluMaxl : Alu := fun s b => select32 s b (decide ((b.snd32 s).toInt < (b.fst32 s).toInt))

/-- MAXM (R386). -/
def aluMaxm : Alu := fun s b =>
  select16 s b (decide (magnitude (b.snd16 s) < magnitude (b.fst16 s)))

/-- MAXML (R387). -/
def aluMaxml : Alu := fun s b =>
  select32 s b (decide (magnitude (b.snd32 s) < magnitude (b.fst32 s)))

/-- MIN (R388). -/
def aluMin : Alu := fun s b => select16 s b (decide ((b.fst16 s).toInt < (b.snd16 s).toInt))

/-- MINL (R389). -/
def aluMinl : Alu := fun s b => select32 s b (decide ((b.fst32 s).toInt < (b.snd32 s).toInt))

/-- MINM (R390). -/
def aluMinm : Alu := fun s b =>
  select16 s b (decide (magnitude (b.fst16 s) < magnitude (b.snd16 s)))

/-- MINML (R391). -/
def aluMinml : Alu := fun s b =>
  select32 s b (decide (magnitude (b.fst32 s) < magnitude (b.snd32 s)))

/-- How many of the `k` bits below bit `k` repeat the sign, from the top. -/
def signRun {n : Nat} (x : BitVec n) : Nat → Nat
  | 0 => 0
  | k + 1 => if x.getLsbD k == x.msb then signRun x k + 1 else 0

/-- `pdn_N(x)`: the bits directly below the sign that repeat it (the head of
spec/48_or_to_rorl.md). -/
def pdn {n : Nat} (x : BitVec n) : Nat := signRun x (n - 1)

/-- A `short` result of which only Z is written. -/
def zeroFlag16 (b : Binding) (r : Half) : Part :=
  .next { regs := write16 b.dst r, flags := [{ z := some (r == 0) }] }

/-- A `long` result of which only Z is written. -/
def zeroFlag32 (b : Binding) (r : Long) : Part :=
  .next { regs := write32 b.dst r, flags := [{ z := some (r == 0) }] }

/-- PDN (R457). -/
def aluPdn : Alu := fun s b => zeroFlag16 b (BitVec.ofNat 16 (pdn (b.fst16 s)))

/-- PDNE (R458): D[15:0] stays, a zero mantissa clears all of D. -/
def aluPdne : Alu := fun s b =>
  let x := b.fst16 s
  zeroFlag32 b (if x = 0 then 0 else BitVec.ofNat 16 (pdn x) ++ b.dst16 s)

/-- PDNL (R459). -/
def aluPdnl : Alu := fun s b => zeroFlag16 b (BitVec.ofNat 16 (pdn (b.fst32 s)))

/-- PDNLE (R460): D[15:0] stays, a zero mantissa clears all of D. -/
def aluPdnle : Alu := fun s b =>
  let x := b.fst32 s
  zeroFlag32 b (if x = 0 then 0 else BitVec.ofNat 16 (pdn x) ++ b.dst16 s)

/-- PDNX (R461): the smaller parameter of the two halves. -/
def aluPdnx : Alu := fun s b =>
  let x := b.fst32 s
  zeroFlag16 b (BitVec.ofNat 16 (min (pdn (hi16 x)) (pdn (lo16 x))))

/-- The number of 1 bits among the low `k` bits. -/
def onesBelow {n : Nat} (x : BitVec n) : Nat → Nat
  | 0 => 0
  | k + 1 => onesBelow x k + (x.getLsbD k).toNat

/-- `popcount(x)` (spec/00_scope.md R5). -/
def popcount {n : Nat} (x : BitVec n) : Nat := onesBelow x n

/-- SMB (R485). -/
def aluSmb : Alu := fun s b => zeroFlag16 b (BitVec.ofNat 16 (popcount (b.fst16 s)))

/-- SMBL (R486). -/
def aluSmbl : Alu := fun s b => zeroFlag16 b (BitVec.ofNat 16 (popcount (b.fst32 s)))

/-- TST (R496). -/
def aluTst : Alu := fun s b => flagsOnly (flagsUNZ (b.fst16 s))

/-- TSTL (R497). -/
def aluTstl : Alu := fun s b => flagsOnly (flagsUNZ (b.fst32 s))

/-- TSTX (R498): V and C are Z and N of the imaginary half. -/
def aluTstx : Alu := fun s b => flagsOnly (flagsHalves (hi16 (b.fst32 s)) (lo16 (b.fst32 s)))

/-- BTST (R263). -/
def execBtst (f : Form) (s : State) : Outcome := runForm .btst aluBtst f s
/-- BTSTL (R264). -/
def execBtstl (f : Form) (s : State) : Outcome := runForm .btstl aluBtstl f s
/-- CMP (R267). -/
def execCmp (f : Form) (s : State) : Outcome := runForm .cmp aluCmp f s
/-- CMPL (R269). -/
def execCmpl (f : Form) (s : State) : Outcome := runForm .cmpl aluCmpl f s
/-- CMPM (R270). -/
def execCmpm (f : Form) (s : State) : Outcome := runForm .cmpm aluCmpm f s
/-- CMPML (R271). -/
def execCmpml (f : Form) (s : State) : Outcome := runForm .cmpml aluCmpml f s
/-- CMPE (R268). -/
def execCmpe (f : Form) (s : State) : Outcome := runForm .cmpe aluCmpe f s
/-- CS2 (R272). -/
def execCs2 (f : Form) (s : State) : Outcome := runForm .cs2 aluCs2 f s
/-- MAX (R384). -/
def execMax (f : Form) (s : State) : Outcome := runForm .max aluMax f s
/-- MAXL (R385). -/
def execMaxl (f : Form) (s : State) : Outcome := runForm .maxl aluMaxl f s
/-- MAXM (R386). -/
def execMaxm (f : Form) (s : State) : Outcome := runForm .maxm aluMaxm f s
/-- MAXML (R387). -/
def execMaxml (f : Form) (s : State) : Outcome := runForm .maxml aluMaxml f s
/-- MIN (R388). -/
def execMin (f : Form) (s : State) : Outcome := runForm .min aluMin f s
/-- MINL (R389). -/
def execMinl (f : Form) (s : State) : Outcome := runForm .minl aluMinl f s
/-- MINM (R390). -/
def execMinm (f : Form) (s : State) : Outcome := runForm .minm aluMinm f s
/-- MINML (R391). -/
def execMinml (f : Form) (s : State) : Outcome := runForm .minml aluMinml f s
/-- PDN (R457). -/
def execPdn (f : Form) (s : State) : Outcome := runForm .pdn aluPdn f s
/-- PDNE (R458). -/
def execPdne (f : Form) (s : State) : Outcome := runForm .pdne aluPdne f s
/-- PDNL (R459). -/
def execPdnl (f : Form) (s : State) : Outcome := runForm .pdnl aluPdnl f s
/-- PDNLE (R460). -/
def execPdnle (f : Form) (s : State) : Outcome := runForm .pdnle aluPdnle f s
/-- PDNX (R461). -/
def execPdnx (f : Form) (s : State) : Outcome := runForm .pdnx aluPdnx f s
/-- SMB (R485). -/
def execSmb (f : Form) (s : State) : Outcome := runForm .smb aluSmb f s
/-- SMBL (R486). -/
def execSmbl (f : Form) (s : State) : Outcome := runForm .smbl aluSmbl f s
/-- TST (R496). -/
def execTst (f : Form) (s : State) : Outcome := runForm .tst aluTst f s
/-- TSTL (R497). -/
def execTstl (f : Form) (s : State) : Outcome := runForm .tstl aluTstl f s
/-- TSTX (R498). -/
def execTstx (f : Form) (s : State) : Outcome := runForm .tstx aluTstx f s

end Sys2Proof.Machine
end

