-- ==== Sys2Proof/Machine/Float.lean ====
section
/-! DEFINITION. Floating point: the formats 24E8 and 32E16 and the conversions CVEF, CVFE, CVFI, CVIF
(spec/43_cvef_to_eorl.md R290 to R293, R304), FADD, FAS, FIN, FINR, FINT, FLOOR, FMPY, FSUB, FTST
(spec/44_fadd_to_ftst.md R320 to R328, R332). -/

namespace Sys2Proof.Machine

/-- The exponent field `e` of a 24E8 value (spec/43_cvef_to_eorl.md R304). -/
def expField (x : Long) : Nat := (x.extractLsb' 23 8).toNat

/-- The fraction field `f` of a 24E8 value (spec/43_cvef_to_eorl.md R304). -/
def fracField (x : Long) : BitVec 23 := x.extractLsb' 0 23

/-- A 24E8 value from sign, exponent field and fraction (spec/43_cvef_to_eorl.md R304). -/
def packFloat (sign : Bool) (e : Nat) (f : BitVec 23) : Long :=
  BitVec.ofBool sign ++ BitVec.ofNat 8 e ++ f

/-- A normal finite value: exponent field 1 to 254. -/
def isNormal (x : Long) : Bool := decide (1 ≤ expField x) && decide (expField x ≤ 254)

/-- The 24-bit significand of a normal value. -/
def significand (x : Long) : Nat := 2 ^ 23 + (fracField x).toNat

/-- `m / 2^k` rounded to the nearest integer, ties to even (spec/43_cvef_to_eorl.md R292). -/
def roundShift (m k : Nat) : Nat :=
  let q := m / 2 ^ k
  let r := 2 * (m % 2 ^ k)
  if 2 ^ k < r ∨ (r = 2 ^ k ∧ q % 2 = 1) then q + 1 else q

/-- The least normal value with a sign. -/
def minNormal (sign : Bool) : Long := packFloat sign 1 0

/-- The 24E8 value nearest to `(-1)^sign * m * 2^x` for `m > 0`, ties to even, when that is a normal
value (spec/44_fadd_to_ftst.md R320). A magnitude in the binade below the least normal value is
rounded at the denormals' step `2^-149`, and counts when that gives the least normal value. -/
def roundFloat (sign : Bool) (m : Nat) (x : Int) : Option Long :=
  let p := Nat.log2 m
  if (p : Int) + x + 127 = 0 then
    if 22 ≤ p ∧ roundShift m (p - 22) = 2 ^ 23 then some (minNormal sign) else none
  else
  let q := if p ≤ 23 then m * 2 ^ (23 - p) else roundShift m (p - 23)
  let carry := q == 2 ^ 24
  let e : Int := p + x + 127 + (if carry then 1 else 0)
  let f := if carry then 0 else BitVec.ofNat 23 q
  if 1 ≤ e ∧ e ≤ 254 then some (packFloat sign e.toNat f) else none

/-- The signed significand of a normal value, scaled by `2^k`. -/
def signedSig (x : Long) (k : Nat) : Int :=
  (if x.msb then -1 else 1) * (significand x * 2 ^ k : Nat)

/-- The sum of two normal values, when it is a normal value. -/
def addNormal (a b : Long) : Option Long :=
  let e := min (expField a) (expField b)
  let x := signedSig a (expField a - e) + signedSig b (expField b - e)
  if x = 0 then none else roundFloat (decide (x < 0)) x.natAbs ((e : Int) - 150)

/-- The product of two normal values, when it is a normal value. -/
def mulNormal (a b : Long) : Option Long :=
  roundFloat (a.msb ^^ b.msb) (significand a * significand b)
    ((expField a : Int) + expField b - 300)

/-- `fop32(op, a, b)`: IEEE-754 binary32, round to nearest even, on normal finite operands with a
normal finite result; open elsewhere (spec/44_fadd_to_ftst.md R320, U15). -/
def fop32 (op : Config.FOp) (a b : Long) : Long :=
  let exact :=
    if isNormal a && isNormal b then
      match op with
      | .add => addNormal a b
      | .sub => addNormal a (b ^^^ 0x80000000#32)
      | .mul => mulNormal a b
    else none
  exact.getD (Config.fop32 op a b)

/-- A float result with N, Z and V; U and C are not written (spec/44_fadd_to_ftst.md R320). -/
def floatResult (b : Binding) (r : Long) : Part :=
  .next { regs := write32 b.dst r, flags := [flagsFloat r] }

/-- FADD (R321). -/
def aluFadd : Alu := fun s b => floatResult b (fop32 .add (b.fst32 s) (b.snd32 s))

/-- FSUB (R328): second source minus first. -/
def aluFsub : Alu := fun s b => floatResult b (fop32 .sub (b.snd32 s) (b.fst32 s))

/-- FMPY (R327). -/
def aluFmpy : Alu := fun s b => floatResult b (fop32 .mul (b.fst32 s) (b.snd32 s))

/-- FAS (R322): DD = 0 writes the difference over S2, DD = 1 writes a 64-bit destination; the flags
are those of the sum. -/
def aluFas : Alu := fun s b =>
  let sum := fop32 .add (b.fst32 s) (b.snd32 s)
  let dif := fop32 .sub (b.snd32 s) (b.fst32 s)
  .next { regs := if s.dd then write64 b.dst (sum ++ dif) else writeTwo32 s b.dst sum b.snd dif
          flags := [flagsFloat sum] }

/-- QNaN (spec/43_cvef_to_eorl.md R304). -/
def qNaN : Long := 0x7FFFFFFF

/-- Infinity with a sign (spec/43_cvef_to_eorl.md R304). -/
def infinity (sign : Bool) : Long := packFloat sign 255 0

/-- The result of FIN (R323): zero with the sign of S for an infinity, else the exponent by the rule,
the fraction open unless it is 0. -/
def finResult (x : Long) : Long :=
  let e := expField x
  let f := fracField x
  if e = 255 ∧ f = 0 then packFloat x.msb 0 0
  else if f = 0 ∧ 1 ≤ e ∧ e ≤ 253 then packFloat x.msb (254 - e) 0
  else if f ≠ 0 ∧ 1 ≤ e ∧ e ≤ 252 then packFloat x.msb (253 - e) (Config.finFrac f)
  else Config.floatSpecial .fin x

/-- V of FIN (R323): S = 0 or QNaN, else 0 (spec/10_state.md R43). -/
def finV (x : Long) : Bool := x.extractLsb' 0 31 == 0 || x == qNaN

/-- FIN (R323): U and C are not written. -/
def aluFin : Alu := fun s b =>
  let x := b.fst32 s
  let r := finResult x
  .next { regs := write32 b.dst r, flags := [{ flagsFloat r with v := some (finV x) }] }

/-- The result of FINR (R324) for a positive normal operand, `E = e - 127`: exact for an even E with
f = 0; otherwise the exponent by the formulas and the fraction open. -/
def finrResult (x : Long) : Long :=
  let e := expField x
  let f := fracField x
  if x.msb ∨ e = 0 ∨ (e = 255 ∧ f ≠ 0) then Config.floatSpecial .finr x
  else if e = 255 then 0
  else if e % 2 = 1 then
    -- E is even
    if f = 0 then packFloat false (127 + 63 - e / 2) 0
    else packFloat false (126 + 63 - e / 2) (Config.finr32 x)
  else
    -- E is odd, (E + 1) / 2 = e / 2 - 63
    packFloat false (127 + 63 - e / 2) (Config.finr32 x)

/-- A NaN (spec/43_cvef_to_eorl.md R304). -/
def isNaN (x : Long) : Bool := expField x == 255 && fracField x != 0

/-- V of FINR (R324): S = 0, S < 0 or QNaN, else 0 (spec/10_state.md R43). A NaN with the sign bit set
is not below 0. DEDUCED (log 19), unsafe. -/
def finrV (x : Long) : Bool :=
  (x.msb && !isNaN x) || x.extractLsb' 0 31 == 0 || x == qNaN

/-- FINR (R324): U, N and C are not written. -/
def aluFinr : Alu := fun s b =>
  let x := b.fst32 s
  let r := finrResult x
  .next { regs := write32 b.dst r
          flags := [{ z := some (r.extractLsb' 0 31 == 0), v := some (finrV x) }] }

/-- An integer magnitude below `2^24` as a 24E8 value; the sign of a zero is open (U15). -/
def intFloat (op : Op) (x : Long) (n : Nat) : Long :=
  if n = 0 then packFloat (Config.zeroSign op x) 0 0
  else (roundFloat x.msb n 0).getD 0

/-- FINT and FLOOR of a value, `mag` giving the integer magnitude from the significand and the
number of fraction bits. Infinities and NaN pass through (R325, said of FINT; for FLOOR a DESIGN
CHOICE, log 58, unsafe); zero keeps its magnitude, a denormal is open (U15). -/
def toIntegral (op : Op) (mag : Nat → Nat → Nat) (x : Long) : Long :=
  let e := expField x
  if e = 255 ∨ 150 ≤ e then x
  else if e = 0 then
    if fracField x = 0 then packFloat (Config.zeroSign op x) 0 0 else Config.floatSpecial op x
  else intFloat op x (mag (significand x) (150 - e))

/-- FINT (R325): to the nearest integer, ties to even. -/
def aluFint : Alu := fun s b => floatResult b (toIntegral .fint roundShift (b.fst32 s))

/-- The magnitude of a value rounded towards minus infinity (R326). -/
def floorMag (neg : Bool) (m k : Nat) : Nat :=
  if neg ∧ m % 2 ^ k ≠ 0 then m / 2 ^ k + 1 else m / 2 ^ k

/-- FLOOR (R326). -/
def aluFloor : Alu := fun s b =>
  let x := b.fst32 s
  floatResult b (toIntegral .floor (floorMag x.msb) x)

/-- FTST (R332). -/
def aluFtst : Alu := fun s b => flagsOnly (flagsFloat (b.fst32 s))

/-- The result of CVEF (R290), the conditions in the rule's order. -/
def cvefResult (m : Long) (exp : Half) : Long :=
  let e := exp.toInt
  let mag := BitVec.ofNat 32 m.toInt.natAbs
  if e = 0x7FFF ∧ m.extractLsb' 0 31 = 0 then infinity m.msb
  else if e = 0x7FFF then qNaN
  else if m = 0 then 0
  else if e ≤ -126 ∧ m ≠ 0x80000000#32 then 0
  else if e ≤ -127 ∧ m = 0x80000000#32 then 0
  else if 129 ≤ e ∧ m ≠ 0x80000000#32 then infinity m.msb
  else if 128 ≤ e ∧ m = 0x80000000#32 then 0xFF800000#32
  else
    let field := if m = 0x80000000#32 then e + 127 else e + 126
    BitVec.ofBool m.msb ++ BitVec.ofInt 8 field ++ mag.extractLsb' 7 23

/-- CVEF (R290). -/
def aluCvef : Alu := fun s b => floatResult b (cvefResult (b.fst32 s) (b.snd16 s))

/-- The exponent and mantissa of CVFE (R291). -/
def cvfeResult (x : Long) : Half × Long :=
  let e := expField x
  let f := fracField x
  if e = 0 then (0, 0)
  else if e = 255 ∧ f = 0 then (0x7FFF, BitVec.ofBool x.msb ++ 0#31)
  else if e = 255 then (0x7FFF, 0x7FFFFFFF)
  else
    let m25 : BitVec 25 := 0b01#2 ++ f
    (BitVec.ofInt 16 ((e : Int) - 126), (if x.msb then -m25 else m25) ++ 0#7)

/-- CVFE (R291): DD = 0 writes the exponent to `s2` and the mantissa to D, DD = 1 both to the 64-bit
D. V and C take any value (U12). Where `s2` is a half of D the exponent and that half of the mantissa
compete, and the register takes either. DESIGN CHOICE (log 57), unsafe: the rule is silent. -/
def aluCvfe : Alu := fun s b =>
  let r := cvfeResult (b.fst32 s)
  .next { regs := if s.dd then write32 b.dst r.2 ++ write16 (b.dst + 2) r.1
                  else write16 b.snd r.1 ++ write32 b.dst r.2
          flags := [flagsVC r.2 (some (Config.freeBit s.draws 1)) (some (Config.freeBit s.draws 0))] }

/-- The result of CVFI (R292) and whether it was limited or the operand is a NaN. -/
def cvfiResult (x : Long) : Long × Bool :=
  let e := expField x
  if e = 0 then (0, false)
  else if e = 255 ∧ fracField x ≠ 0 then (0, true)
  else
    let n := if 150 ≤ e then significand x * 2 ^ (e - 150) else roundShift (significand x) (150 - e)
    if x.msb then
      if 2 ^ 31 < n then (0x80000000#32, true) else (BitVec.ofInt 32 (-(n : Int)), false)
    else if 2 ^ 31 - 1 < n then (0x7FFFFFFF#32, true) else (BitVec.ofNat 32 n, false)

/-- CVFI (R292): C is not written. -/
def aluCvfi : Alu := fun s b =>
  let r := cvfiResult (b.fst32 s)
  bits32 b r.1 (some r.2) none

/-- The 24E8 value nearest to a signed 32-bit integer (R293). -/
def cvifResult (x : Long) : Long :=
  if x = 0 then 0 else (roundFloat x.msb x.toInt.natAbs 0).getD 0

/-- CVIF (R293): U, V and C are not written. -/
def aluCvif : Alu := fun s b =>
  let r := cvifResult (b.fst32 s)
  .next { regs := write32 b.dst r, flags := [{ n := some r.msb, z := some (r == 0) }] }

/-- FADD (R321). -/
def execFadd (f : Form) (s : State) : Outcome := runForm .fadd aluFadd f s
/-- FSUB (R328). -/
def execFsub (f : Form) (s : State) : Outcome := runForm .fsub aluFsub f s
/-- FMPY (R327). -/
def execFmpy (f : Form) (s : State) : Outcome := runForm .fmpy aluFmpy f s
/-- FAS (R322). -/
def execFas (f : Form) (s : State) : Outcome := runForm .fas aluFas f s
/-- FIN (R323). -/
def execFin (f : Form) (s : State) : Outcome := runForm .fin aluFin f s
/-- FINR (R324). -/
def execFinr (f : Form) (s : State) : Outcome := runForm .finr aluFinr f s
/-- FINT (R325). -/
def execFint (f : Form) (s : State) : Outcome := runForm .fint aluFint f s
/-- FLOOR (R326). -/
def execFloor (f : Form) (s : State) : Outcome := runForm .floor aluFloor f s
/-- FTST (R332). -/
def execFtst (f : Form) (s : State) : Outcome := runForm .ftst aluFtst f s
/-- CVEF (R290). -/
def execCvef (f : Form) (s : State) : Outcome := runForm .cvef aluCvef f s
/-- CVFE (R291). -/
def execCvfe (f : Form) (s : State) : Outcome := runForm .cvfe aluCvfe f s
/-- CVFI (R292). -/
def execCvfi (f : Form) (s : State) : Outcome := runForm .cvfi aluCvfi f s
/-- CVIF (R293). -/
def execCvif (f : Form) (s : State) : Outcome := runForm .cvif aluCvif f s

end Sys2Proof.Machine
end

