-- ==== Sys2Proof/Machine/Logic.lean ====
section
/-! DEFINITION. The bitwise operations, the clears, the register moves and the packing operations:
AND, ANDC, ANDCL, ANDI, ANDL (spec/41_and_to_asrx.md), CLR, CLRL (spec/42_b_to_cs2.md), EOR, EORL
(spec/43_cvef_to_eorl.md), INSL (spec/45_inc_to_lsrx.md), NOT, NOTL (spec/47_move_to_notl.md), OR,
ORC, ORCL, ORI, ORL, PACK, PACKL (spec/48_or_to_rorl.md), SWL, TR, TRL (spec/49_rts_to_tstx.md).
The logic operations write neither V nor C. -/

namespace Sys2Proof.Machine

/-- AND (R230). -/
def aluAnd : Alu := fun s b => bits16 b (b.fst16 s &&& b.snd16 s) none none

/-- ANDC (R231): the first operand inverted. -/
def aluAndc : Alu := fun s b => bits16 b (~~~b.fst16 s &&& b.snd16 s) none none

/-- ANDCL (R232): the first operand inverted. -/
def aluAndcl : Alu := fun s b => bits32 b (~~~b.fst32 s &&& b.snd32 s) none none

/-- ANDI (R233): the result inverted. -/
def aluAndi : Alu := fun s b => bits16 b (~~~(b.fst16 s &&& b.snd16 s)) none none

/-- ANDL (R234). -/
def aluAndl : Alu := fun s b => bits32 b (b.fst32 s &&& b.snd32 s) none none

/-- EOR (R302). -/
def aluEor : Alu := fun s b => bits16 b (b.fst16 s ^^^ b.snd16 s) none none

/-- EORL (R303). -/
def aluEorl : Alu := fun s b => bits32 b (b.fst32 s ^^^ b.snd32 s) none none

/-- NOT (R432). -/
def aluNot : Alu := fun s b => bits16 b (~~~b.fst16 s) none none

/-- NOTL (R433). -/
def aluNotl : Alu := fun s b => bits32 b (~~~b.fst32 s) none none

/-- OR (R450). -/
def aluOr : Alu := fun s b => bits16 b (b.fst16 s ||| b.snd16 s) none none

/-- ORC (R451): the second operand inverted. -/
def aluOrc : Alu := fun s b => bits16 b (b.fst16 s ||| ~~~b.snd16 s) none none

/-- ORCL (R452): the second operand inverted. -/
def aluOrcl : Alu := fun s b => bits32 b (b.fst32 s ||| ~~~b.snd32 s) none none

/-- ORI (R453): the result inverted. -/
def aluOri : Alu := fun s b => bits16 b (~~~(b.fst16 s ||| b.snd16 s)) none none

/-- ORL (R454). -/
def aluOrl : Alu := fun s b => bits32 b (b.fst32 s ||| b.snd32 s) none none

/-- INSL (R352): a 0 in the mask S2 selects the bit of S1, a 1 keeps that of D. -/
def aluInsl : Alu := fun s b =>
  bits32 b ((~~~b.snd32 s &&& b.fst32 s) ||| (b.snd32 s &&& b.dst32 s)) none none

/-- PACK (R455): `{b[15:8], a[15:8]}`. -/
def aluPack : Alu := fun s b =>
  bits16 b ((b.snd16 s).extractLsb' 8 8 ++ (b.fst16 s).extractLsb' 8 8) none none

/-- PACKL (R456): `{B[31:16], A[31:16]}`. -/
def aluPackl : Alu := fun s b => bits32 b (hi16 (b.snd32 s) ++ hi16 (b.fst32 s)) none none

/-- SWL (R493): the halves exchanged. -/
def aluSwl : Alu := fun s b => bits32 b (lo16 (b.fst32 s) ++ hi16 (b.fst32 s)) none none

/-- CLR (R265): no flag is written. -/
def aluClr : Alu := fun _ b => .next { regs := write16 b.dst 0 }

/-- CLRL (R266): no flag is written. -/
def aluClrl : Alu := fun _ b => .next { regs := write32 b.dst 0 }

/-- TR (R494): no flag is written. -/
def aluTr : Alu := fun s b => .next { regs := write16 b.dst (b.fst16 s) }

/-- TRL (R495): no flag is written. -/
def aluTrl : Alu := fun s b => .next { regs := write32 b.dst (b.fst32 s) }

/-- AND (R230). -/
def execAnd (f : Form) (s : State) : Outcome := runForm .and aluAnd f s
/-- ANDC (R231). -/
def execAndc (f : Form) (s : State) : Outcome := runForm .andc aluAndc f s
/-- ANDCL (R232). -/
def execAndcl (f : Form) (s : State) : Outcome := runForm .andcl aluAndcl f s
/-- ANDI (R233). -/
def execAndi (f : Form) (s : State) : Outcome := runForm .andi aluAndi f s
/-- ANDL (R234). -/
def execAndl (f : Form) (s : State) : Outcome := runForm .andl aluAndl f s
/-- EOR (R302). -/
def execEor (f : Form) (s : State) : Outcome := runForm .eor aluEor f s
/-- EORL (R303). -/
def execEorl (f : Form) (s : State) : Outcome := runForm .eorl aluEorl f s
/-- NOT (R432). -/
def execNot (f : Form) (s : State) : Outcome := runForm .not aluNot f s
/-- NOTL (R433). -/
def execNotl (f : Form) (s : State) : Outcome := runForm .notl aluNotl f s
/-- OR (R450). -/
def execOr (f : Form) (s : State) : Outcome := runForm .or aluOr f s
/-- ORC (R451). -/
def execOrc (f : Form) (s : State) : Outcome := runForm .orc aluOrc f s
/-- ORCL (R452). -/
def execOrcl (f : Form) (s : State) : Outcome := runForm .orcl aluOrcl f s
/-- ORI (R453). -/
def execOri (f : Form) (s : State) : Outcome := runForm .ori aluOri f s
/-- ORL (R454). -/
def execOrl (f : Form) (s : State) : Outcome := runForm .orl aluOrl f s
/-- INSL (R352). -/
def execInsl (f : Form) (s : State) : Outcome := runForm .insl aluInsl f s
/-- PACK (R455). -/
def execPack (f : Form) (s : State) : Outcome := runForm .pack aluPack f s
/-- PACKL (R456). -/
def execPackl (f : Form) (s : State) : Outcome := runForm .packl aluPackl f s
/-- SWL (R493). -/
def execSwl (f : Form) (s : State) : Outcome := runForm .swl aluSwl f s
/-- CLR (R265). -/
def execClr (f : Form) (s : State) : Outcome := runForm .clr aluClr f s
/-- CLRL (R266). -/
def execClrl (f : Form) (s : State) : Outcome := runForm .clrl aluClrl f s
/-- TR (R494). -/
def execTr (f : Form) (s : State) : Outcome := runForm .tr aluTr f s
/-- TRL (R495). -/
def execTrl (f : Form) (s : State) : Outcome := runForm .trl aluTrl f s

end Sys2Proof.Machine
end

