-- ==== Sys2Proof/Machine/Mul.lean ====
section
/-! DEFINITION. Multiplication and accumulation: MAC, MACL, MMACX, MAC2 (spec/46_mac_to_minml.md R380
to R383), MPF, MPF2, MPF2S, MPSS, MPUU, MPX, MPYL (spec/47_move_to_notl.md R420 to R426), SAC2
(spec/49_rts_to_tstx.md R481). -/

namespace Sys2Proof.Machine

/-- The 64-bit accumulator `{AC1, AC0}` (spec/10_state.md R24). -/
def State.acc (s : State) : Dbl := s.ac1 ++ s.ac0

/-- The writes of both accumulators. -/
def writeAcc (ac1 ac0 : Long) : List (CReg × Long) := [(.ac0, ac0), (.ac1, ac1)]

/-- Narrowing to `n` bits with saturation (R382). -/
def saturate (n : Nat) (x : Int) : BitVec n :=
  if (2 : Int) ^ (n - 1) ≤ x then BitVec.ofInt n ((2 : Int) ^ (n - 1) - 1)
  else if x < -(2 : Int) ^ (n - 1) then BitVec.ofInt n (-(2 : Int) ^ (n - 1))
  else BitVec.ofInt n x

/-- Narrowing with saturation when CCR[8] = 1, by wrapping otherwise (R382). -/
def State.narrow (s : State) (n : Nat) (x : Int) : BitVec n :=
  if s.satMode then saturate n x else BitVec.ofInt n x

/-- The old accumulator to `RD[D]`, the sum with an exact product to the accumulator; Z is that of
the old accumulator (R380). -/
def accumulate (s : State) (b : Binding) (p : Int) : Part :=
  let x := s.acc.toInt + p
  let r := BitVec.ofInt 64 x
  .next { regs := write64 b.dst s.acc
          ctrl := writeAcc (r.extractLsb' 32 32) (r.extractLsb' 0 32)
          flags := [{ u := some (unnorm r), n := some r.msb, z := some (s.acc == 0)
                      v := some (overflows 64 x)
                      c := some (addCarry s.acc (BitVec.ofInt 64 p) false) }] }

/-- MAC (R380). -/
def aluMac : Alu := fun s b => accumulate s b ((b.fst16 s).toInt * (b.snd16 s).toInt)

/-- MACL (R381). -/
def aluMacl : Alu := fun s b => accumulate s b ((b.fst32 s).toInt * (b.snd32 s).toInt)

/-- The flags of two 32-bit accumulations: U when both are unnormalised, N = AC1n[31], Z of the old
accumulators, V when one overflows, C = AC0n[31] (R382, R383). -/
def flagsPairAcc (s : State) (x1 x0 : Int) : FlagUpd :=
  let r1 := s.narrow 32 x1
  let r0 := s.narrow 32 x0
  { u := some (unnorm r1 && unnorm r0)
    n := some r1.msb
    z := some (s.ac1 == 0 && s.ac0 == 0)
    v := some (overflows 32 x1 || overflows 32 x0)
    c := some r0.msb }

/-- MAC2 (R383). -/
def aluMac2 : Alu := fun s b =>
  let a := b.fst32 s
  let c := b.snd32 s
  let x0 := s.ac0.toInt + (lo16 a).toInt * (lo16 c).toInt
  let x1 := s.ac1.toInt + (hi16 a).toInt * (hi16 c).toInt
  .next { regs := write64 b.dst s.acc
          ctrl := writeAcc (s.narrow 32 x1) (s.narrow 32 x0)
          flags := [flagsPairAcc s x1 x0] }

/-- Signed byte `i` of a long operand. -/
def byteOf (x : Long) (i : Nat) : Int := (x.extractLsb' (8 * i) 8).toInt

/-- MMACX (R382): the accumulators are not copied to D. -/
def aluMmacx : Alu := fun s b =>
  let p := byteOf (b.fst32 s)
  let q := byteOf (b.snd32 s)
  let x1 := s.ac1.toInt + (p 3 * q 3 + p 1 * q 1)
  let x0 := s.ac0.toInt + (p 1 * q 3 - p 3 * q 1)
  let re := 2 * (p 2 * q 2) + 2 * (p 0 * q 0)
  let im := 2 * (p 0 * q 2) - 2 * (p 2 * q 0)
  .next { regs := write32 b.dst (s.narrow 16 re ++ s.narrow 16 im)
          ctrl := writeAcc (s.narrow 32 x1) (s.narrow 32 x0)
          flags := [flagsPairAcc s x1 x0] }

/-- MPF (R420): the doubled product; C is not written. -/
def aluMpf : Alu := fun s b =>
  let x := 2 * ((b.fst16 s).toInt * (b.snd16 s).toInt)
  bits32 b (BitVec.ofInt 32 x) (some (overflows 32 x)) none

/-- The high half of the doubled product of two fractions, and its overflow (R421). -/
def fracMul (x y : Half) : Half × Bool :=
  let p := 2 * (x.toInt * y.toInt)
  (hi16 (BitVec.ofInt 32 p), overflows 32 p)

/-- Two fractional products and their flags: U of both halves, N = D[31], Z of both, V of either,
C = D[15] (R421). -/
def fracPair (b : Binding) (hi lo : Half × Bool) : Part :=
  .next { regs := write32 b.dst (hi.1 ++ lo.1)
          flags := [flagsPair hi.1 lo.1 (hi.1 == 0 && lo.1 == 0) (some (hi.2 || lo.2))
            (some lo.1.msb)] }

/-- MPF2 (R421). -/
def aluMpf2 : Alu := fun s b =>
  let a := b.fst32 s
  let c := b.snd32 s
  fracPair b (fracMul (hi16 a) (hi16 c)) (fracMul (lo16 a) (lo16 c))

/-- MPF2S (R422): crossed factors. -/
def aluMpf2s : Alu := fun s b =>
  let a := b.fst32 s
  let c := b.snd32 s
  fracPair b (fracMul (hi16 a) (lo16 c)) (fracMul (lo16 a) (hi16 c))

/-- MPSS (R423): V and C are not written. -/
def aluMpss : Alu := fun s b =>
  bits32 b (BitVec.ofInt 32 ((b.fst16 s).toInt * (b.snd16 s).toInt)) none none

/-- MPUU (R424): N, V and C are not written. -/
def aluMpuu : Alu := fun s b =>
  let r := BitVec.ofNat 32 ((b.fst16 s).toNat * (b.snd16 s).toNat)
  .next { regs := write32 b.dst r, flags := [{ u := some (unnorm r), z := some (r == 0) }] }

/-- MPX (R425): Z = Zr, V = Vr | Vi, C = Ni. -/
def aluMpx : Alu := fun s b =>
  let p := byteOf (b.fst32 s)
  let q := byteOf (b.snd32 s)
  let re := 2 * (p 3 * q 3) + 2 * (p 1 * q 1)
  let im := 2 * (p 1 * q 3) - 2 * (p 3 * q 1)
  let r := BitVec.ofInt 16 re
  let i := BitVec.ofInt 16 im
  .next { regs := write32 b.dst (r ++ i)
          flags := [flagsPair r i (r == 0) (some (overflows 16 re || overflows 16 im))
            (some i.msb)] }

/-- MPYL (R426): V is not written, C = D[31]. -/
def aluMpyl : Alu := fun s b =>
  let r := BitVec.ofInt 64 ((b.fst32 s).toInt * (b.snd32 s).toInt)
  .next { regs := write64 b.dst r, flags := [flagsVC r none (some (r.getLsbD 31))] }

/-- A 32-bit accumulator after SAC2: its exact result `x` when it fits; on overflow the low 32 bits
(spec/92_eei_decisions.md D9), or in the saturation mode the open value `limit` (R481, log 16). -/
def State.sac2Narrow (s : State) (x : Int) (limit : Long) : Long :=
  if s.satMode && overflows 32 x then limit else BitVec.ofInt 32 x

/-- SAC2 (R481): the exact results are the open function `sac2Sums`. V = 1 when one of them
overflows, whatever CCR[8] (note 6), and C = AC0n[31] (note 7). -/
def aluSac2 : Alu := fun s b =>
  let a := b.fst32 s
  let c := b.snd32 s
  let x := Config.sac2Sums a c s.ac1 s.ac0 (withBit s.ccr 8 false)
  let r := Config.sac2 a c s.ac1 s.ac0 s.ccr
  let ac1 := s.sac2Narrow x.ac1 r.limit1
  let ac0 := s.sac2Narrow x.ac0 r.limit0
  .next { regs := if r.wide then write64 b.dst r.d else write32 b.dst (r.d.extractLsb' 0 32)
          ctrl := writeAcc ac1 ac0
          flags := [{ u := some r.u, n := some r.n, z := some r.z
                      v := some (overflows 32 x.ac1 || overflows 32 x.ac0)
                      c := some ac0.msb }] }

/-- MAC (R380). -/
def execMac (f : Form) (s : State) : Outcome := runForm .mac aluMac f s
/-- MACL (R381). -/
def execMacl (f : Form) (s : State) : Outcome := runForm .macl aluMacl f s
/-- MAC2 (R383). -/
def execMac2 (f : Form) (s : State) : Outcome := runForm .mac2 aluMac2 f s
/-- MMACX (R382). -/
def execMmacx (f : Form) (s : State) : Outcome := runForm .mmacx aluMmacx f s
/-- MPF (R420). -/
def execMpf (f : Form) (s : State) : Outcome := runForm .mpf aluMpf f s
/-- MPF2 (R421). -/
def execMpf2 (f : Form) (s : State) : Outcome := runForm .mpf2 aluMpf2 f s
/-- MPF2S (R422). -/
def execMpf2s (f : Form) (s : State) : Outcome := runForm .mpf2s aluMpf2s f s
/-- MPSS (R423). -/
def execMpss (f : Form) (s : State) : Outcome := runForm .mpss aluMpss f s
/-- MPUU (R424). -/
def execMpuu (f : Form) (s : State) : Outcome := runForm .mpuu aluMpuu f s
/-- MPX (R425). -/
def execMpx (f : Form) (s : State) : Outcome := runForm .mpx aluMpx f s
/-- MPYL (R426). -/
def execMpyl (f : Form) (s : State) : Outcome := runForm .mpyl aluMpyl f s
/-- SAC2 (R481). -/
def execSac2 (f : Form) (s : State) : Outcome := runForm .sac2 aluSac2 f s

end Sys2Proof.Machine
end

