-- ==== Sys2Proof/Machine/Shift.lean ====
section
/-! DEFINITION. The shifts, rotates and masks: ASL, ASLL, ASLX, ASR, ASRL, ASRLE, ASRX
(spec/41_and_to_asrx.md R236 to R243), LSL, LSLL, LSLX, LSR, LSRL, LSRX (spec/45_inc_to_lsrx.md R356
to R361), MSKG, MSKGL (spec/47_move_to_notl.md R427, R428), ROL, ROLL, ROR, RORL
(spec/48_or_to_rorl.md R463 to R466). -/

namespace Sys2Proof.Machine

/-- The shift count: `#5`, or the low six bits of the count register (spec/41_and_to_asrx.md
R242). -/
def Binding.count (b : Binding) (s : State) : Nat := ((b.fst16 s).extractLsb' 0 6).toNat

/-- The count for the real half of LSLX and LSRX: `#5`, or bits 21:16 of the count operand
(spec/41_and_to_asrx.md R242). -/
def Binding.countHi (b : Binding) (s : State) : Nat :=
  match b.fst with
  | .reg n => ((s.r32 n).extractLsb' 16 6).toNat
  | .imm5 k => k.toNat
  | .imm v => (v.extractLsb' 16 6).toNat

/-- The last bit that a left shift by `n` moves out; 0 for a count of 0 or beyond the width
(spec/41_and_to_asrx.md R236). -/
def leftOut {w : Nat} (x : BitVec w) (n : Nat) : Bool :=
  if n = 0 ∨ w < n then false else x.getLsbD (w - n)

/-- The last bit that a logical right shift by `n` moves out; 0 for a count of 0 or beyond the width
(spec/45_inc_to_lsrx.md R359). -/
def rightOut {w : Nat} (x : BitVec w) (n : Nat) : Bool :=
  if n = 0 then false else x.getLsbD (n - 1)

/-- The last bit that an arithmetic right shift by `n` moves out; the sign beyond the width, 0 for a
count of 0 (spec/41_and_to_asrx.md R239). -/
def arithOut {w : Nat} (x : BitVec w) (n : Nat) : Bool :=
  if n = 0 then false else if w < n then x.msb else x.getLsbD (n - 1)

/-- V of an arithmetic left shift: the exact value does not fit (spec/41_and_to_asrx.md R236). -/
def leftOverflow {w : Nat} (x : BitVec w) (n : Nat) : Bool := overflows w (x.toInt * 2 ^ n)

/-- ASL (R236): N is not written. -/
def aluAsl : Alu := fun s b =>
  let x := b.snd16 s
  let n := b.count s
  let r := x <<< n
  .next { regs := write16 b.dst r
          flags := [{ u := some (unnorm r), z := some (r == 0), v := some (leftOverflow x n)
                      c := some (leftOut x n) }] }

/-- ASLL (R237): N is not written. -/
def aluAsll : Alu := fun s b =>
  let x := b.snd32 s
  let n := b.count s
  let r := x <<< n
  .next { regs := write32 b.dst r
          flags := [{ u := some (unnorm r), z := some (r == 0), v := some (leftOverflow x n)
                      c := some (leftOut x n) }] }

/-- ASLX (R238): each half; N and C are not written. -/
def aluAslx : Alu := fun s b =>
  let x := b.snd32 s
  let n := b.count s
  let r := hi16 x <<< n
  let i := lo16 x <<< n
  .next { regs := write32 b.dst (r ++ i)
          flags := [{ u := some (unnorm r && unnorm i), z := some (r == 0 && i == 0)
                      v := some (leftOverflow (hi16 x) n || leftOverflow (lo16 x) n) }] }

/-- ASR (R239): V is not written. -/
def aluAsr : Alu := fun s b =>
  let x := b.snd16 s
  let n := b.count s
  bits16 b (x.sshiftRight n) none (some (arithOut x n))

/-- ASRL (R240): V is not written. -/
def aluAsrl : Alu := fun s b =>
  let x := b.snd32 s
  let n := b.count s
  bits32 b (x.sshiftRight n) none (some (arithOut x n))

/-- ASRLE (R241): E selects which of D and S2 is shifted in place; the count is the whole 16-bit
register, and a count of 32 or more gives 0. V is not written. -/
def aluAsrle : Alu := fun s b =>
  let n := (b.fst16 s).toNat
  let target := if s.flagE then b.dst else b.snd
  let x := s.r32 target
  let r := if n < 32 then x.sshiftRight n else 0
  .next { regs := write32 target r
          flags := [flagsVC r none (some (decide (n < 32) && arithOut x n))] }

/-- ASRX (R243): each half; only U and Z are written. -/
def aluAsrx : Alu := fun s b =>
  let x := b.snd32 s
  let n := b.count s
  let r := (hi16 x).sshiftRight n
  let i := (lo16 x).sshiftRight n
  .next { regs := write32 b.dst (r ++ i)
          flags := [{ u := some (unnorm r && unnorm i), z := some (r == 0 && i == 0) }] }

/-- LSL (R356): V is not written. -/
def aluLsl : Alu := fun s b =>
  let x := b.snd16 s
  let n := b.count s
  bits16 b (x <<< n) none (some (leftOut x n))

/-- LSLL (R357): V is not written. -/
def aluLsll : Alu := fun s b =>
  let x := b.snd32 s
  let n := b.count s
  bits32 b (x <<< n) none (some (leftOut x n))

/-- LSLX (R358): each half by its own count; N is the last bit out of the imaginary half, C that out
of the real one. -/
def aluLslx : Alu := fun s b =>
  let x := b.snd32 s
  let nr := b.countHi s
  let ni := b.count s
  let r := hi16 x <<< nr
  let i := lo16 x <<< ni
  .next { regs := write32 b.dst (r ++ i)
          flags := [{ u := some (unnorm r && unnorm i), z := some (r == 0 && i == 0)
                      n := some (leftOut (lo16 x) ni), c := some (leftOut (hi16 x) nr) }] }

/-- LSR (R359): N and V are not written. -/
def aluLsr : Alu := fun s b =>
  let x := b.snd16 s
  let n := b.count s
  let r := x >>> n
  .next { regs := write16 b.dst r
          flags := [{ u := some (unnorm r), z := some (r == 0), c := some (rightOut x n) }] }

/-- LSRL (R360): N and V are not written. -/
def aluLsrl : Alu := fun s b =>
  let x := b.snd32 s
  let n := b.count s
  let r := x >>> n
  .next { regs := write32 b.dst r
          flags := [{ u := some (unnorm r), z := some (r == 0), c := some (rightOut x n) }] }

/-- LSRX (R361): each half by its own count; N is the last bit out of the real half, C that out of
the imaginary one. -/
def aluLsrx : Alu := fun s b =>
  let x := b.snd32 s
  let nr := b.countHi s
  let ni := b.count s
  let r := hi16 x >>> nr
  let i := lo16 x >>> ni
  .next { regs := write32 b.dst (r ++ i)
          flags := [{ u := some (unnorm r && unnorm i), z := some (r == 0 && i == 0)
                      n := some (rightOut (hi16 x) nr), c := some (rightOut (lo16 x) ni) }] }

/-- MSKG (R427): no flag is written. -/
def aluMskg : Alu := fun s b =>
  let x : Long := b.snd16 s ++ 0xFFFF#16
  .next { regs := write16 b.dst (hi16 (x <<< b.count s)) }

/-- MSKGL (R428): no flag is written. -/
def aluMskgl : Alu := fun s b =>
  let x : Dbl := b.snd32 s ++ 0xFFFFFFFF#32
  .next { regs := write32 b.dst ((x <<< b.count s).extractLsb' 32 32) }

/-- ROL (R463): through C by one position. -/
def aluRol : Alu := fun s b =>
  let x := b.fst16 s
  bits16 b (x.extractLsb' 0 15 ++ BitVec.ofBool s.flagC) none (some x.msb)

/-- ROLL (R464): through C by one position. -/
def aluRoll : Alu := fun s b =>
  let x := b.fst32 s
  bits32 b (x.extractLsb' 0 31 ++ BitVec.ofBool s.flagC) none (some x.msb)

/-- ROR (R465): through C by one position. -/
def aluRor : Alu := fun s b =>
  let x := b.fst16 s
  bits16 b (BitVec.ofBool s.flagC ++ x.extractLsb' 1 15) none (some (x.getLsbD 0))

/-- RORL (R466): through C by one position. -/
def aluRorl : Alu := fun s b =>
  let x := b.fst32 s
  bits32 b (BitVec.ofBool s.flagC ++ x.extractLsb' 1 31) none (some (x.getLsbD 0))

/-- ASL (R236). -/
def execAsl (f : Form) (s : State) : Outcome := runForm .asl aluAsl f s
/-- ASLL (R237). -/
def execAsll (f : Form) (s : State) : Outcome := runForm .asll aluAsll f s
/-- ASLX (R238). -/
def execAslx (f : Form) (s : State) : Outcome := runForm .aslx aluAslx f s
/-- ASR (R239). -/
def execAsr (f : Form) (s : State) : Outcome := runForm .asr aluAsr f s
/-- ASRL (R240). -/
def execAsrl (f : Form) (s : State) : Outcome := runForm .asrl aluAsrl f s
/-- ASRLE (R241). -/
def execAsrle (f : Form) (s : State) : Outcome := runForm .asrle aluAsrle f s
/-- ASRX (R243). -/
def execAsrx (f : Form) (s : State) : Outcome := runForm .asrx aluAsrx f s
/-- LSL (R356). -/
def execLsl (f : Form) (s : State) : Outcome := runForm .lsl aluLsl f s
/-- LSLL (R357). -/
def execLsll (f : Form) (s : State) : Outcome := runForm .lsll aluLsll f s
/-- LSLX (R358). -/
def execLslx (f : Form) (s : State) : Outcome := runForm .lslx aluLslx f s
/-- LSR (R359). -/
def execLsr (f : Form) (s : State) : Outcome := runForm .lsr aluLsr f s
/-- LSRL (R360). -/
def execLsrl (f : Form) (s : State) : Outcome := runForm .lsrl aluLsrl f s
/-- LSRX (R361). -/
def execLsrx (f : Form) (s : State) : Outcome := runForm .lsrx aluLsrx f s
/-- MSKG (R427). -/
def execMskg (f : Form) (s : State) : Outcome := runForm .mskg aluMskg f s
/-- MSKGL (R428). -/
def execMskgl (f : Form) (s : State) : Outcome := runForm .mskgl aluMskgl f s
/-- ROL (R463). -/
def execRol (f : Form) (s : State) : Outcome := runForm .rol aluRol f s
/-- ROLL (R464). -/
def execRoll (f : Form) (s : State) : Outcome := runForm .roll aluRoll f s
/-- ROR (R465). -/
def execRor (f : Form) (s : State) : Outcome := runForm .ror aluRor f s
/-- RORL (R466). -/
def execRorl (f : Form) (s : State) : Outcome := runForm .rorl aluRorl f s

end Sys2Proof.Machine
end

