-- ==== Sys2Proof/Machine/Sub.lean ====
section
/-! DEFINITION. Subtraction, increment, change of sign and the width conversions by rounding or
extension: ASH (spec/41_and_to_asrx.md R235), DEC, DECL, DISPFX, DISPX (spec/43_cvef_to_eorl.md R294
to R297), FTR, FTRFL, FTRL (spec/44_fadd_to_ftst.md R329 to R331), INC, INCL
(spec/45_inc_to_lsrx.md), NEG, NEGL (spec/47_move_to_notl.md), RNDL (spec/48_or_to_rorl.md R462),
SAH, SBC, SBCL, SUB, SUBL, SUBLR, SUBLRTR, SUBX (spec/49_rts_to_tstx.md). -/

namespace Sys2Proof.Machine

/-- SUB (R488): `b - a`. -/
def aluSub : Alu := fun s b =>
  arith16 .sub b ((b.snd16 s).toInt - (b.fst16 s).toInt)
    (some (subCarry (b.snd16 s) (b.fst16 s) true))

/-- SUBL (R489): `B - A`. -/
def aluSubl : Alu := fun s b =>
  arith32 .subl b ((b.snd32 s).toInt - (b.fst32 s).toInt)
    (some (subCarry (b.snd32 s) (b.fst32 s) true))

/-- SBC (R483): `b - a - (~C)`. -/
def aluSbc : Alu := fun s b =>
  arith16 .sbc b ((b.snd16 s).toInt - (b.fst16 s).toInt - (!s.flagC).toNat)
    (some (subCarry (b.snd16 s) (b.fst16 s) s.flagC))

/-- SBCL (R484): `B - A - (~C)`. -/
def aluSbcl : Alu := fun s b =>
  arith32 .sbcl b ((b.snd32 s).toInt - (b.fst32 s).toInt - (!s.flagC).toNat)
    (some (subCarry (b.snd32 s) (b.fst32 s) s.flagC))

/-- SUBLR (R490): `B - A` rounded to its high half. -/
def aluSublr : Alu := fun s b =>
  roundLong .sublr s b ((b.snd32 s).toInt - (b.fst32 s).toInt)
    (subCarry (b.snd32 s) (b.fst32 s) true)

/-- SUBLRTR (R491): `B - A` rounded to 16 bits. -/
def aluSublrtr : Alu := fun s b =>
  roundShort .sublrtr s b ((b.snd32 s).toInt - (b.fst32 s).toInt)
    (subCarry (b.snd32 s) (b.fst32 s) true)

/-- SUBX (R492): half by half; Z = Zr, V = Vr | Vi, C = Cr. -/
def aluSubx : Alu := fun s b =>
  let a := b.fst32 s
  let c := b.snd32 s
  let yr := b.scaled .subx ((hi16 c).toInt - (hi16 a).toInt)
  let yi := b.scaled .subx ((lo16 c).toInt - (lo16 a).toInt)
  let r := BitVec.ofInt 16 yr
  let i := BitVec.ofInt 16 yi
  .next { regs := write32 b.dst (r ++ i)
          flags := [flagsPair r i (r == 0) (some (overflows 16 yr || overflows 16 yi))
            (some (subCarry (hi16 c) (hi16 a) true))] }

/-- ASH (R235): the sum of the halves of A, the difference of those of B; N = N+, Z = Z+, C = N-. -/
def aluAsh : Alu := fun s b =>
  let a := b.fst32 s
  let c := b.snd32 s
  let ys := b.scaled .ash ((hi16 a).toInt + (lo16 a).toInt)
  let yd := b.scaled .ash ((lo16 c).toInt - (hi16 c).toInt)
  let sum := BitVec.ofInt 16 ys
  let dif := BitVec.ofInt 16 yd
  .next { regs := write32 b.dst (sum ++ dif)
          flags := [flagsSumDifSigns sum dif sum.msb (overflows 16 ys || overflows 16 yd) dif.msb] }

/-- SAH (R482): the difference of the halves of A, the sum of those of B; N = N-, Z = Z+, C = N+. -/
def aluSah : Alu := fun s b =>
  let a := b.fst32 s
  let c := b.snd32 s
  let yd := b.scaled .sah ((hi16 a).toInt - (lo16 a).toInt)
  let ys := b.scaled .sah ((lo16 c).toInt + (hi16 c).toInt)
  let dif := BitVec.ofInt 16 yd
  let sum := BitVec.ofInt 16 ys
  .next { regs := write32 b.dst (dif ++ sum)
          flags := [flagsSumDifSigns sum dif dif.msb (overflows 16 ys || overflows 16 yd) sum.msb] }

/-- NEG (R429): C is not written. -/
def aluNeg : Alu := fun s b => arith16 .neg b (-(b.fst16 s).toInt) none

/-- NEGL (R430): C is not written. -/
def aluNegl : Alu := fun s b => arith32 .negl b (-(b.fst32 s).toInt) none

/-- INC (R350): C is not written. -/
def aluInc : Alu := fun s b => arith16 .inc b ((b.fst16 s).toInt + 1) none

/-- INCL (R351): C is not written. -/
def aluIncl : Alu := fun s b => arith32 .incl b ((b.fst32 s).toInt + 1) none

/-- DEC (R294): C is not written. -/
def aluDec : Alu := fun s b => arith16 .dec b ((b.fst16 s).toInt - 1) none

/-- DECL (R295): C is not written. -/
def aluDecl : Alu := fun s b => arith32 .decl b ((b.fst32 s).toInt - 1) none

/-- RNDL (R462). -/
def aluRndl : Alu := fun s b =>
  let x := b.fst32 s
  let y := roundedHigh x s.rnd * 65536
  let r := BitVec.ofInt 32 y
  bits32 b r (some (overflows 32 y))
    (some (addCarry (hi16 x) (BitVec.ofNat 16 (rnd16 x s.rnd).toNat) false))

/-- FTRL (R331): the high half rounded; the flags are those of the 16-bit addition. -/
def aluFtrl : Alu := fun s b =>
  let x := b.fst32 s
  arith16 .ftrl b (roundedHigh x s.rnd)
    (some (addCarry (hi16 x) (BitVec.ofNat 16 (rnd16 x s.rnd).toNat) false))

/-- FTR (R329): sign extension; V and C are not written. -/
def aluFtr : Alu := fun s b => bits32 b ((b.fst16 s).signExtend 32) none none

/-- FTRFL (R330): left-aligned; V and C are not written. -/
def aluFtrfl : Alu := fun s b => bits32 b (b.fst16 s ++ 0#16) none none

/-- DISPFX (R296): each byte left-aligned in its half. -/
def aluDispfx : Alu := fun s b =>
  let x := b.fst16 s
  let r : Half := x.extractLsb' 8 8 ++ 0#8
  let i : Half := x.extractLsb' 0 8 ++ 0#8
  .next { regs := write32 b.dst (r ++ i), flags := [flagsHalves r i] }

/-- DISPX (R297): each byte sign-extended in its half. -/
def aluDispx : Alu := fun s b =>
  let x := b.fst16 s
  let r : Half := BitVec.ofInt 16 (b.scaled .dispx (x.extractLsb' 8 8).toInt)
  let i : Half := BitVec.ofInt 16 (b.scaled .dispx (x.extractLsb' 0 8).toInt)
  .next { regs := write32 b.dst (r ++ i), flags := [flagsHalves r i] }

/-- SUB (R488). -/
def execSub (f : Form) (s : State) : Outcome := runForm .sub aluSub f s
/-- SUBL (R489). -/
def execSubl (f : Form) (s : State) : Outcome := runForm .subl aluSubl f s
/-- SBC (R483). -/
def execSbc (f : Form) (s : State) : Outcome := runForm .sbc aluSbc f s
/-- SBCL (R484). -/
def execSbcl (f : Form) (s : State) : Outcome := runForm .sbcl aluSbcl f s
/-- SUBLR (R490). -/
def execSublr (f : Form) (s : State) : Outcome := runForm .sublr aluSublr f s
/-- SUBLRTR (R491). -/
def execSublrtr (f : Form) (s : State) : Outcome := runForm .sublrtr aluSublrtr f s
/-- SUBX (R492). -/
def execSubx (f : Form) (s : State) : Outcome := runForm .subx aluSubx f s
/-- ASH (R235). -/
def execAsh (f : Form) (s : State) : Outcome := runForm .ash aluAsh f s
/-- SAH (R482). -/
def execSah (f : Form) (s : State) : Outcome := runForm .sah aluSah f s
/-- NEG (R429). -/
def execNeg (f : Form) (s : State) : Outcome := runForm .neg aluNeg f s
/-- NEGL (R430). -/
def execNegl (f : Form) (s : State) : Outcome := runForm .negl aluNegl f s
/-- INC (R350). -/
def execInc (f : Form) (s : State) : Outcome := runForm .inc aluInc f s
/-- INCL (R351). -/
def execIncl (f : Form) (s : State) : Outcome := runForm .incl aluIncl f s
/-- DEC (R294). -/
def execDec (f : Form) (s : State) : Outcome := runForm .dec aluDec f s
/-- DECL (R295). -/
def execDecl (f : Form) (s : State) : Outcome := runForm .decl aluDecl f s
/-- RNDL (R462). -/
def execRndl (f : Form) (s : State) : Outcome := runForm .rndl aluRndl f s
/-- FTRL (R331). -/
def execFtrl (f : Form) (s : State) : Outcome := runForm .ftrl aluFtrl f s
/-- FTR (R329). -/
def execFtr (f : Form) (s : State) : Outcome := runForm .ftr aluFtr f s
/-- FTRFL (R330). -/
def execFtrfl (f : Form) (s : State) : Outcome := runForm .ftrfl aluFtrfl f s
/-- DISPFX (R296). -/
def execDispfx (f : Form) (s : State) : Outcome := runForm .dispfx aluDispfx f s
/-- DISPX (R297). -/
def execDispx (f : Form) (s : State) : Outcome := runForm .dispx aluDispx f s

end Sys2Proof.Machine
end

