-- ==== Sys2Proof/Machine/Parallel.lean ====
section
/-! DEFINITION. The instructions with two operations, FRAME 8a to 8d (spec/30_encoding.md R115, R116,
R124): any OP1 operation beside any OP2 operation and the transfers of the frame. -/

namespace Sys2Proof.Machine

/-- What each operation writes. -/
def aluOf : Op → Alu
  | .abs => aluAbs
  | .absl => aluAbsl
  | .adc => aluAdc
  | .adcl => aluAdcl
  | .adc16l => aluAdc16l
  | .add => aluAdd
  | .addl => aluAddl
  | .addlr => aluAddlr
  | .addlrtr => aluAddlrtr
  | .addsub => aluAddsub
  | .addsubl => aluAddsubl
  | .addsubx => aluAddsubx
  | .addx => aluAddx
  | .ad1 => aluAd1
  | .and => aluAnd
  | .andc => aluAndc
  | .andcl => aluAndcl
  | .andi => aluAndi
  | .andl => aluAndl
  | .ash => aluAsh
  | .asl => aluAsl
  | .asll => aluAsll
  | .aslx => aluAslx
  | .asr => aluAsr
  | .asrl => aluAsrl
  | .asrle => aluAsrle
  | .asrx => aluAsrx
  | .btst => aluBtst
  | .btstl => aluBtstl
  | .clr => aluClr
  | .clrl => aluClrl
  | .cmp => aluCmp
  | .cmpe => aluCmpe
  | .cmpl => aluCmpl
  | .cmpm => aluCmpm
  | .cmpml => aluCmpml
  | .cs2 => aluCs2
  | .cvef => aluCvef
  | .cvfi => aluCvfi
  | .cvif => aluCvif
  | .dec => aluDec
  | .decl => aluDecl
  | .dispfx => aluDispfx
  | .dispx => aluDispx
  | .eor => aluEor
  | .eorl => aluEorl
  | .fadd => aluFadd
  | .fas => aluFas
  | .fin => aluFin
  | .finr => aluFinr
  | .fint => aluFint
  | .floor => aluFloor
  | .fmpy => aluFmpy
  | .fsub => aluFsub
  | .ftr => aluFtr
  | .ftrfl => aluFtrfl
  | .ftrl => aluFtrl
  | .ftst => aluFtst
  | .inc => aluInc
  | .incl => aluIncl
  | .insl => aluInsl
  | .lsl => aluLsl
  | .lsll => aluLsll
  | .lslx => aluLslx
  | .lsr => aluLsr
  | .lsrl => aluLsrl
  | .lsrx => aluLsrx
  | .mac => aluMac
  | .macl => aluMacl
  | .mmacx => aluMmacx
  | .mac2 => aluMac2
  | .max => aluMax
  | .maxl => aluMaxl
  | .maxm => aluMaxm
  | .maxml => aluMaxml
  | .min => aluMin
  | .minl => aluMinl
  | .minm => aluMinm
  | .minml => aluMinml
  | .mpf => aluMpf
  | .mpf2 => aluMpf2
  | .mpss => aluMpss
  | .mpuu => aluMpuu
  | .mpx => aluMpx
  | .mskg => aluMskg
  | .mskgl => aluMskgl
  | .neg => aluNeg
  | .negl => aluNegl
  | .not => aluNot
  | .notl => aluNotl
  | .or => aluOr
  | .orc => aluOrc
  | .orcl => aluOrcl
  | .ori => aluOri
  | .orl => aluOrl
  | .pack => aluPack
  | .packl => aluPackl
  | .pdn => aluPdn
  | .pdne => aluPdne
  | .pdnl => aluPdnl
  | .pdnle => aluPdnle
  | .pdnx => aluPdnx
  | .rndl => aluRndl
  | .rol => aluRol
  | .roll => aluRoll
  | .ror => aluRor
  | .rorl => aluRorl
  | .sac2 => aluSac2
  | .sah => aluSah
  | .sbc => aluSbc
  | .sbcl => aluSbcl
  | .smb => aluSmb
  | .smbl => aluSmbl
  | .sub => aluSub
  | .subl => aluSubl
  | .sublr => aluSublr
  | .sublrtr => aluSublrtr
  | .subx => aluSubx
  | .swl => aluSwl
  | .tr => aluTr
  | .trl => aluTrl
  | .tst => aluTst
  | .tstl => aluTstl
  | .tstx => aluTstx
  | .nop => fun _ _ => idle
  | .cvfe => aluCvfe
  | .mpf2s => aluMpf2s
  | .mpyl => aluMpyl

/-- The OP1 slot of a format 8 instruction. -/
def part1 (s : State) (i : Slot1) : Part := aluOf i.op s (.threeAddr (.reg i.s1) i.s2 i.d i.m)

/-- The OP2 slot of a format 8 instruction: `s3` plays `s1`, `s4` plays `s2`, `d2` plays `d`
(spec/30_encoding.md R116). -/
def part2 (s : State) (i : Slot2) : Part :=
  aluOf i.op s (.threeAddr (.ofOpnd i.s3) i.s4 i.d2 false)

/-- A pair of operations in a frame. -/
def runPair (s : State) (i1 : Slot1) (i2 : Slot2) (fr : Frame) : Outcome :=
  runFrame s i1.op i2.op (part1 s i1) (part2 s i2) fr

/-- FRAME 8a: with an X and a Y transfer. -/
def execFrame8a (i1 : Slot1) (i2 : Slot2) (at2 : BitVec 2) (x : XferX) (s : State) : Outcome :=
  runPair s i1 i2 (.a at2 x)

/-- FRAME 8b: with a register and a Y transfer. -/
def execFrame8b (i1 : Slot1) (i2 : Slot2) (at2 : BitVec 2) (x : XferRR) (s : State) : Outcome :=
  runPair s i1 i2 (.b at2 x)

/-- FRAME 8c: with a condition on OP2 and on the register transfer. -/
def execFrame8c (i1 : Slot1) (i2 : Slot2) (cc : Cond) (rs rd : BitVec 4) (s : State) : Outcome :=
  runPair s i1 i2 (.c cc rs rd)

/-- FRAME 8d: with a control register transfer. -/
def execFrame8d (i1 : Slot1) (i2 : Slot2) (x : XferRC) (s : State) : Outcome :=
  runPair s i1 i2 (.d x)

end Sys2Proof.Machine
end

