-- ==== Sys2Proof/Machine/Dispatch.lean ====
section
/-! DEFINITION. The meaning of every instruction, one arm per constructor of `Instr`. -/

namespace Sys2Proof.Machine

def exec (i : Instr) (s : State) : Host.Outcome State Fault Refusal :=
  match i with
  | .abs f => Sys2Proof.Machine.execAbs f s
  | .absl f => Sys2Proof.Machine.execAbsl f s
  | .adc f => Sys2Proof.Machine.execAdc f s
  | .adcl f => Sys2Proof.Machine.execAdcl f s
  | .adc16l f => Sys2Proof.Machine.execAdc16l f s
  | .add f => Sys2Proof.Machine.execAdd f s
  | .addl f => Sys2Proof.Machine.execAddl f s
  | .addlr f => Sys2Proof.Machine.execAddlr f s
  | .addlrtr f => Sys2Proof.Machine.execAddlrtr f s
  | .addsub f => Sys2Proof.Machine.execAddsub f s
  | .addsubl f => Sys2Proof.Machine.execAddsubl f s
  | .addsubx f => Sys2Proof.Machine.execAddsubx f s
  | .addx f => Sys2Proof.Machine.execAddx f s
  | .ad1 f => Sys2Proof.Machine.execAd1 f s
  | .and f => Sys2Proof.Machine.execAnd f s
  | .andc f => Sys2Proof.Machine.execAndc f s
  | .andcl f => Sys2Proof.Machine.execAndcl f s
  | .andi f => Sys2Proof.Machine.execAndi f s
  | .andl f => Sys2Proof.Machine.execAndl f s
  | .ash f => Sys2Proof.Machine.execAsh f s
  | .asl f => Sys2Proof.Machine.execAsl f s
  | .asll f => Sys2Proof.Machine.execAsll f s
  | .aslx f => Sys2Proof.Machine.execAslx f s
  | .asr f => Sys2Proof.Machine.execAsr f s
  | .asrl f => Sys2Proof.Machine.execAsrl f s
  | .asrle f => Sys2Proof.Machine.execAsrle f s
  | .asrx f => Sys2Proof.Machine.execAsrx f s
  | .b cc t => Sys2Proof.Machine.execB cc t s
  | .bd cc t => Sys2Proof.Machine.execBd cc t s
  | .bs cc t => Sys2Proof.Machine.execBs cc t s
  | .btst f => Sys2Proof.Machine.execBtst f s
  | .btstl f => Sys2Proof.Machine.execBtstl f s
  | .clr f => Sys2Proof.Machine.execClr f s
  | .clrl f => Sys2Proof.Machine.execClrl f s
  | .cmp f => Sys2Proof.Machine.execCmp f s
  | .cmpe f => Sys2Proof.Machine.execCmpe f s
  | .cmpl f => Sys2Proof.Machine.execCmpl f s
  | .cmpm f => Sys2Proof.Machine.execCmpm f s
  | .cmpml f => Sys2Proof.Machine.execCmpml f s
  | .cs2 f => Sys2Proof.Machine.execCs2 f s
  | .cvef f => Sys2Proof.Machine.execCvef f s
  | .cvfi f => Sys2Proof.Machine.execCvfi f s
  | .cvif f => Sys2Proof.Machine.execCvif f s
  | .dec f => Sys2Proof.Machine.execDec f s
  | .decl f => Sys2Proof.Machine.execDecl f s
  | .dispfx f => Sys2Proof.Machine.execDispfx f s
  | .dispx f => Sys2Proof.Machine.execDispx f s
  | .doNAbs n last => Sys2Proof.Machine.execDoNAbs n last s
  | .doNRel n last => Sys2Proof.Machine.execDoNRel n last s
  | .doDAbs d last => Sys2Proof.Machine.execDoDAbs d last s
  | .doDRel d last => Sys2Proof.Machine.execDoDRel d last s
  | .doforAbs last => Sys2Proof.Machine.execDoforAbs last s
  | .doforRel last => Sys2Proof.Machine.execDoforRel last s
  | .enddo => Sys2Proof.Machine.execEnddo s
  | .eor f => Sys2Proof.Machine.execEor f s
  | .eorl f => Sys2Proof.Machine.execEorl f s
  | .fadd f => Sys2Proof.Machine.execFadd f s
  | .fas f => Sys2Proof.Machine.execFas f s
  | .fin f => Sys2Proof.Machine.execFin f s
  | .finr f => Sys2Proof.Machine.execFinr f s
  | .fint f => Sys2Proof.Machine.execFint f s
  | .floor f => Sys2Proof.Machine.execFloor f s
  | .fmpy f => Sys2Proof.Machine.execFmpy f s
  | .fsub f => Sys2Proof.Machine.execFsub f s
  | .ftr f => Sys2Proof.Machine.execFtr f s
  | .ftrfl f => Sys2Proof.Machine.execFtrfl f s
  | .ftrl f => Sys2Proof.Machine.execFtrl f s
  | .ftst f => Sys2Proof.Machine.execFtst f s
  | .inc f => Sys2Proof.Machine.execInc f s
  | .incl f => Sys2Proof.Machine.execIncl f s
  | .insl f => Sys2Proof.Machine.execInsl f s
  | .j cc t => Sys2Proof.Machine.execJ cc t s
  | .jd cc t => Sys2Proof.Machine.execJd cc t s
  | .js cc t => Sys2Proof.Machine.execJs cc t s
  | .lsl f => Sys2Proof.Machine.execLsl f s
  | .lsll f => Sys2Proof.Machine.execLsll f s
  | .lslx f => Sys2Proof.Machine.execLslx f s
  | .lsr f => Sys2Proof.Machine.execLsr f s
  | .lsrl f => Sys2Proof.Machine.execLsrl f s
  | .lsrx f => Sys2Proof.Machine.execLsrx f s
  | .mac f => Sys2Proof.Machine.execMac f s
  | .macl f => Sys2Proof.Machine.execMacl f s
  | .mmacx f => Sys2Proof.Machine.execMmacx f s
  | .mac2 f => Sys2Proof.Machine.execMac2 f s
  | .max f => Sys2Proof.Machine.execMax f s
  | .maxl f => Sys2Proof.Machine.execMaxl f s
  | .maxm f => Sys2Proof.Machine.execMaxm f s
  | .maxml f => Sys2Proof.Machine.execMaxml f s
  | .min f => Sys2Proof.Machine.execMin f s
  | .minl f => Sys2Proof.Machine.execMinl f s
  | .minm f => Sys2Proof.Machine.execMinm f s
  | .minml f => Sys2Proof.Machine.execMinml f s
  | .move f => Sys2Proof.Machine.execMove f s
  | .move16Agu d imm => Sys2Proof.Machine.execMove16Agu d imm s
  | .move16Pcu d imm => Sys2Proof.Machine.execMove16Pcu d imm s
  | .mpf f => Sys2Proof.Machine.execMpf f s
  | .mpf2 f => Sys2Proof.Machine.execMpf2 f s
  | .mpss f => Sys2Proof.Machine.execMpss f s
  | .mpuu f => Sys2Proof.Machine.execMpuu f s
  | .mpx f => Sys2Proof.Machine.execMpx f s
  | .mskg f => Sys2Proof.Machine.execMskg f s
  | .mskgl f => Sys2Proof.Machine.execMskgl f s
  | .neg f => Sys2Proof.Machine.execNeg f s
  | .negl f => Sys2Proof.Machine.execNegl f s
  | .nop => Sys2Proof.Machine.execNop s
  | .not f => Sys2Proof.Machine.execNot f s
  | .notl f => Sys2Proof.Machine.execNotl f s
  | .or f => Sys2Proof.Machine.execOr f s
  | .orc f => Sys2Proof.Machine.execOrc f s
  | .orcl f => Sys2Proof.Machine.execOrcl f s
  | .ori f => Sys2Proof.Machine.execOri f s
  | .orl f => Sys2Proof.Machine.execOrl f s
  | .pack f => Sys2Proof.Machine.execPack f s
  | .packl f => Sys2Proof.Machine.execPackl f s
  | .pdn f => Sys2Proof.Machine.execPdn f s
  | .pdne f => Sys2Proof.Machine.execPdne f s
  | .pdnl f => Sys2Proof.Machine.execPdnl f s
  | .pdnle f => Sys2Proof.Machine.execPdnle f s
  | .pdnx f => Sys2Proof.Machine.execPdnx f s
  | .rndl f => Sys2Proof.Machine.execRndl f s
  | .rol f => Sys2Proof.Machine.execRol f s
  | .roll f => Sys2Proof.Machine.execRoll f s
  | .ror f => Sys2Proof.Machine.execRor f s
  | .rorl f => Sys2Proof.Machine.execRorl f s
  | .sac2 f => Sys2Proof.Machine.execSac2 f s
  | .sah f => Sys2Proof.Machine.execSah f s
  | .sbc f => Sys2Proof.Machine.execSbc f s
  | .sbcl f => Sys2Proof.Machine.execSbcl f s
  | .smb f => Sys2Proof.Machine.execSmb f s
  | .smbl f => Sys2Proof.Machine.execSmbl f s
  | .stop => Sys2Proof.Machine.execStop s
  | .sub f => Sys2Proof.Machine.execSub f s
  | .subl f => Sys2Proof.Machine.execSubl f s
  | .sublr f => Sys2Proof.Machine.execSublr f s
  | .sublrtr f => Sys2Proof.Machine.execSublrtr f s
  | .subx f => Sys2Proof.Machine.execSubx f s
  | .swl f => Sys2Proof.Machine.execSwl f s
  | .tr f => Sys2Proof.Machine.execTr f s
  | .trl f => Sys2Proof.Machine.execTrl f s
  | .tst f => Sys2Proof.Machine.execTst f s
  | .tstl f => Sys2Proof.Machine.execTstl f s
  | .tstx f => Sys2Proof.Machine.execTstx f s
  | .frame8a i1 i2 at2 x => Sys2Proof.Machine.execFrame8a i1 i2 at2 x s
  | .frame8b i1 i2 at2 x => Sys2Proof.Machine.execFrame8b i1 i2 at2 x s
  | .frame8c i1 i2 cc rs rd => Sys2Proof.Machine.execFrame8c i1 i2 cc rs rd s
  | .frame8d i1 i2 x => Sys2Proof.Machine.execFrame8d i1 i2 x s
  | .rts cc => Sys2Proof.Machine.execRts cc s
  | .cvfe f => Sys2Proof.Machine.execCvfe f s
  | .mpf2s f => Sys2Proof.Machine.execMpf2s f s
  | .mpyl f => Sys2Proof.Machine.execMpyl f s

end Sys2Proof.Machine
end

