-- ==== Sys2Proof/Machine/Step.lean ====
section
/-! DEFINITION. The step of the core (spec/00_scope.md R9): fetch, decode and execute one
instruction; and how the host places an instruction where the step fetches it. -/

namespace Sys2Proof.Machine

/-- RUN = DCSR[14] (spec/10_state.md R29). -/
def State.running (s : State) : Bool := s.dcsr.getLsbD 14

/-- The instruction at PC: stuck when a word of it lies outside the program memory
(spec/20_memory.md R78, R79), refused when no table assigns it (spec/30_encoding.md R128). -/
def State.current (s : State) : Host.Outcome Instr Fault Refusal :=
  let w := s.fetch s.pc
  if !s.inProgram s.pc then .fault (.fetchOutside s.pc)
  else if isTwoWords s.launch w && !s.inProgram (s.pc + 1) then .fault (.fetchOutside (s.pc + 1))
  else
    match decode s.launch w (s.fetch (s.pc + 1)) with
    | .ok i => .next i
    | .error e => .refused (.reserved e)

/-- One step (spec/00_scope.md R9). In the stopped state there is none
(spec/70_reset_and_hazards.md R552). -/
def step (s : State) : Host.Outcome State Fault Refusal :=
  if !s.running then .fault .halted
  else
    match s.current with
    | .next i => exec i s
    | .fault r => .fault r
    | .refused r => .refused r

/-- The state with an instruction in program memory at PC: its first word in bits 31 to 0, its
second in bits 63 to 32, bits above `nbits` zero (spec/30_encoding.md R100). It stands for the host's
loading of program memory before launch (spec/00_scope.md R8, log 1). -/
def State.withFetchWord (s : State) (nbits w : Nat) : State :=
  let v := w % 2 ^ nbits
  { s with
    pmem := (s.pmem.writeWord s.pc.toNat (BitVec.ofNat 32 v)).writeWord (s.pc + 1).toNat
      (BitVec.ofNat 32 (v / 2 ^ 32)) }

end Sys2Proof.Machine
end

