-- ==== Sys2Proof/Safety.lean ====
section
/-! DEFINITION. What the claims rest on: launch parameters whose open codes collide with no assigned
encoding (spec/00_scope.md R4), states whose memories are in canonical form, the byte a claim reads,
and the registers that a frame claim keeps. -/

namespace Sys2Proof

/-- Some opcode field and `#` bit are both codes. -/
def OpCode.overlaps (c d : OpCode) : Bool :=
  [false, true].any fun h => (c.read c.bits h).isSome && (d.read c.bits h).isSome

/-- The code that `f` gives an operation is no other operation's code. -/
def codeApart (f : Op → Option OpCode) (op : Op) : Bool :=
  match f op with
  | none => true
  | some c =>
    Op.all.all fun op' =>
      op' == op || match f op' with
        | none => true
        | some d => !c.overlaps d

/-- The opcodes of format 3 that are no ALU operation: NOP, DOFOR, DO, ENDDO, the branches and
jumps, STOP, and `MOVE #16` (spec/30_encoding.md R126, R127). -/
def format3Opcodes : List (BitVec 7) :=
  [0b0000000, 0b0001010, 0b0001011, 0b0001110, 0b0001111, 0b0011011, 0b0011100, 0b0011101,
   0b0011110, 0b0011111, 0b0101100, 0b0101101, 0b1011110, 0b1101101, 0b1101111]

/-- The word of RTS is a format 3 word whose opcode nothing else has in format 3
(spec/30_encoding.md R108). -/
def rtsApart (w : Long) : Bool :=
  w.extractLsb' 7 4 == 0b0011#4 && !format3Opcodes.contains (w.extractLsb' 0 7)
    && Op.all.all fun op =>
      !op.info.formats.contains .f3 || op.info.code.map OpCode.bits != some (w.extractLsb' 0 7)

/-- The launch parameters meet spec/00_scope.md R4: "the parameters that replace a lost encoding must
not collide with an assigned encoding", and the codes of the addressing modes that
spec/20_memory.md R72 assumes are three different ones. -/
def Launch.ok (l : Launch) : Bool :=
  [Op.cvfe, .mpf2s, .mpyl].all (codeApart (Op.code l))
    && [Op.mpf2s, .mpyl, .addl].all (codeApart (Op.code2 l))
    && l.cvfeOpcode != some 0b1000000#7 && l.cvfeOpcode != some 0b1100111#7
    && l.mpf2sCode != some (0b00111#5, false) && l.mpylCode != some (0b00111#5, false)
    && l.rtsWord.all rtsApart
    && l.modeImm != l.modeInd && l.modeImm != l.modeInc && l.modeInd != l.modeInc

namespace Machine

/-- Both memories are in canonical form. -/
def State.wf (s : State) : Bool := s.pmem.wf && s.dmem.wf

/-- The instruction's first word and, where it has one, its second word lie in program memory
(spec/20_memory.md R79). -/
def State.fetchable (s : State) : Bool :=
  s.inProgram s.pc && (!isTwoWords s.launch (s.fetch s.pc) || s.inProgram (s.pc + 1))

/-! ### The parts of an ALU instruction (spec/30_encoding.md R102 to R116, R130) -/

end Machine

/-- The operands a format binds: first source, second source, destination, whether the form is
three-address, and the Scaling bit (spec/30_encoding.md R117 to R121, R130). In the formats 3 to 7
the destination is the second source as well. -/
def Form.binding : Form → Machine.Binding
  | .f1 _ s1 s2 d => ⟨.ofOpnd s1, s2, d, true, false⟩
  | .f2 _ imm s2 d => ⟨.imm imm, s2, d, true, false⟩
  | .f3 imm d => ⟨.imm (imm.setWidth 32), d, d, false, false⟩
  | .f4 s d _ => ⟨.ofOpnd s, d, d, false, false⟩
  | .f5 s d _ => ⟨.ofOpnd s, d, d, false, false⟩
  | .f6 s d _ => ⟨.ofOpnd s, d, d, false, false⟩
  | .f7 _ s d _ => ⟨.reg s, d, d, false, false⟩
  | .f8 _ m s1 s2 d _ => ⟨.ofOpnd s1, s2, d, true, m⟩

/-- The length of the instruction in words (spec/30_encoding.md R132). -/
def Form.len : Form → Half
  | .f2 .. | .f7 .. | .f8 .. => 2
  | _ => 1

namespace Machine

/-- The transfers beside the operation, as they are when they execute (spec/47_move_to_notl.md R411
to R415). -/
def frameTransfer (s : State) : Frame → Part
  | .a at2 x => both (xferX s 0 x) (xferY s at2)
  | .b at2 x => both (xferRR s x) (xferY s at2)
  | .c _ rs rd => xferRR s ⟨longReg rs, longReg rd, true⟩
  | .d x => xferRC s x

/-- Whether OP2 and the transfer of a frame execute: the condition of 8c (spec/30_encoding.md R116,
R120). -/
def frameHolds (s : State) : Frame → Bool
  | .c cc _ _ => s.holds cc
  | _ => true

/-- Whether the operation of the form executes (spec/30_encoding.md R120): formats 1, 2 and 7 under
their condition, the OP2 operation of 8c under that of the frame. -/
def opHolds (s : State) : Form → Bool
  | .f1 cc .. | .f2 cc .. | .f7 cc .. => s.holds cc
  | .f8 .op2 _ _ _ _ fr => frameHolds s fr
  | _ => true

/-- Whether the transfer of the form executes (spec/30_encoding.md R120, spec/47_move_to_notl.md
R413, R415). -/
def transferHolds (s : State) : Form → Bool
  | .f7 cc .. => s.holds cc
  | .f8 _ _ _ _ _ fr => frameHolds s fr
  | _ => true

/-- The transfers of the form, under their condition; nothing for formats 1 to 3. -/
def beside (s : State) (f : Form) : Part :=
  guarded (transferHolds s f) <|
    match f with
    | .f1 .. | .f2 .. | .f3 .. => idle
    | .f4 _ _ x => xferX s 0 x
    | .f5 _ _ x => xferRR s x
    | .f6 _ _ x => xferRC s x
    | .f7 _ _ _ x => xferImm s x
    | .f8 _ _ _ _ _ fr => frameTransfer s fr

/-- The long and double operands of an operation are even registers (spec/10_state.md R21, R22,
spec/30_encoding.md R128). -/
def evenOperands (op : Op) (b : Binding) : Prop :=
  let uses := op.info.shape.uses
  (uses.1 = true → op.info.fst ≠ .w16 → ∀ n, b.fst = .reg n → n.getLsbD 0 = false)
    ∧ (uses.2.1 = true → op.info.snd ≠ .w16 → b.snd.getLsbD 0 = false)
    ∧ (uses.2.2 = true → op.info.dst ≠ .w16 → b.dst.getLsbD 0 = false)

/-- A memory transfer beside an operation is not in the immediate mode, and a 32-bit register transfer
names even registers (spec/30_encoding.md R128). -/
def frameExists (l : Launch) : Frame → Prop
  | .a _ x => x.mode ≠ l.modeImm
  | .b _ x => x.l = true → x.rs.getLsbD 0 = false ∧ x.rd.getLsbD 0 = false
  | .c .. | .d _ => True

/-- The transfer of a form exists, as `frameExists`; a 32-bit immediate goes to an even data register
(spec/30_encoding.md R128). -/
def transferExists (l : Launch) : Form → Prop
  | .f4 _ _ x => x.mode ≠ l.modeImm
  | .f5 _ _ x => x.l = true → x.rs.getLsbD 0 = false ∧ x.rd.getLsbD 0 = false
  | .f7 _ _ _ x => x.sr = false → x.lsc = true → x.rd.getLsbD 0 = false
  | .f8 _ _ _ _ _ fr => frameExists l fr
  | _ => True

/-- A pair of operations in a frame meets what spec/30_encoding.md R128 asks. -/
def pairExists (l : Launch) (i1 : Slot1) (i2 : Slot2) (fr : Frame) : Prop :=
  frameFmt fr ∈ i1.op.info.formats ∧ frameFmt fr ∈ i2.op.info.formats
    ∧ (i1.m = true → i1.op.info.scaling = true)
    ∧ evenOperands i1.op ⟨.reg i1.s1, i1.s2, i1.d, true, false⟩
    ∧ evenOperands i2.op ⟨.ofOpnd i2.s3, i2.s4, i2.d2, true, false⟩ ∧ frameExists l fr

/-- The instruction with two operations that a frame makes of two slots (spec/30_encoding.md R116). -/
def frameInstr (i1 : Slot1) (i2 : Slot2) : Frame → Instr
  | .a at2 x => .frame8a i1 i2 at2 x
  | .b at2 x => .frame8b i1 i2 at2 x
  | .c cc rs rd => .frame8c i1 i2 cc rs rd
  | .d x => .frame8d i1 i2 x

/-- What the parts of a format 8 instruction may not combine (spec/70_reset_and_hazards.md R555); no
other format has such a restriction. -/
def formStop (s : State) (op : Op) : Form → Option Refusal
  | .f8 .op1 _ _ _ _ fr => frameStop s op .nop fr
  | .f8 .op2 _ _ _ _ fr => frameStop s .nop op fr
  | _ => none

/-- The state after an ALU instruction whose operation writes `e` and whose transfers write `x`: all
writes together (spec/30_encoding.md R133), then the program counter moves on (spec/00_scope.md
R9). -/
def after (s : State) (f : Form) (e x : Effect) : State :=
  advance f.len .fallthrough (commit s ((if opHolds s f then e else {}).and x))

/-! ### What an operation may write -/

/-- The registers of `RL[n]` (spec/10_state.md R21). -/
def pairOf (n : RegNo) : List RegNo := [n, n + 1]

/-- The registers of `RD[n]` (spec/10_state.md R22). -/
def quadOf (n : RegNo) : List RegNo := [n, n + 1, n + 2, n + 3]

/-- The destination registers of an operation (its rule's Operation line): the destination field at
its width; both results of ADDSUB, ADDSUBL, ADDSUBX and FAS, which while DD = 0 also write a source
(spec/40_abs_to_ad1.md R209, spec/44_fadd_to_ftst.md R322); the exponent of CVFE
(spec/43_cvef_to_eorl.md R291); the shifted operand of ASRLE (spec/41_and_to_asrx.md R241); up to 64
bits for SAC2, whose page is lost. -/
def destinations (s : State) (op : Op) (b : Binding) : List RegNo :=
  match op with
  | .addsub => if s.dd then pairOf b.dst else [sumDest b, difDest b]
  | .addsubl | .addsubx =>
    if s.dd then quadOf b.dst else pairOf (sumDest b) ++ pairOf (difDest b)
  | .fas => if s.dd then quadOf b.dst else pairOf b.dst ++ pairOf b.snd
  | .cvfe => if s.dd then [b.dst, b.dst + 1, b.dst + 2] else b.snd :: pairOf b.dst
  | .asrle => pairOf (if s.flagE then b.dst else b.snd)
  | .sac2 => quadOf b.dst
  | op =>
    match op.info.shape with
    | .source | .compare | .none => []
    | _ =>
      match op.info.dst with
      | .w16 => [b.dst]
      | .w32 => pairOf b.dst
      | .w64 => quadOf b.dst

/-- The operations that write the accumulators: CS2, MAC, MACL, MMACX, MAC2, SAC2
(spec/42_b_to_cs2.md R272, spec/46_mac_to_minml.md, spec/49_rts_to_tstx.md R481). -/
def writesAccumulators (op : Op) : Bool :=
  [Op.cs2, .mac, .macl, .mmacx, .mac2, .sac2].contains op

/-- What an instruction that transfers no control leaves as it is when it writes the control
registers `written`: every other control register, DCSR, the entries of the stacks, program memory
and the launch parameters; and of PC, LA, LC, SP and CP, which the end of an instruction moves, all but
PC unless it is the last one of an active loop. -/
def keepsBut (written : List CReg) (s t : State) : Prop :=
  (∀ c, c ∉ written → c ∉ [CReg.pc, .la, .lc, .sp, .cp, .ss, .csl, .csh] →
      t.readCReg c = s.readCReg c)
    ∧ t.dcsr = s.dcsr ∧ t.ss = s.ss ∧ t.csl = s.csl ∧ t.csh = s.csh ∧ t.pmem = s.pmem
    ∧ t.launch = s.launch
    ∧ (.la ∉ written → .lc ∉ written → (s.delay ≠ none ∨ s.loopActive = false ∨ s.pc ≠ s.la) →
      ∀ c ∈ [CReg.la, .lc, .sp, .cp], c ∉ written → t.readCReg c = s.readCReg c)

/-- The word address a transfer stores to, when the instruction stores (spec/47_move_to_notl.md R411:
`de = 0`); the address is the one `xferX` computes. -/
def storeOf (s : State) (imm : Half) (x : XferX) : Option Half :=
  if x.de then none else some (s.aguX x.a x.mode x.u imm).1

/-- The word address a form stores to. -/
def formStore (s : State) : Form → Option Half
  | .f4 _ _ x => storeOf s 0 x
  | .f8 _ _ _ _ _ (.a _ x) => storeOf s 0 x
  | _ => none

/-- The word address an instruction stores to: the transfer with data memory of formats 4, 6t, 7t
and 8a, when it executes; no other instruction stores. -/
def storeAddress (s : State) (i : Instr) : Option Half :=
  match partsOf i with
  | some (_, f) => formStore s f
  | none =>
    match i with
    | .move (.mem cc x) => if s.holds cc then storeOf s 0 x else none
    | .move (.memImm cc r a u de imm) =>
      if s.holds cc then storeOf s imm ⟨r, a, s.launch.modeImm, u, de⟩ else none
    | .frame8a _ _ _ x => storeOf s 0 x
    | _ => none

/-- The program-flow instructions of spec/93_implementation_defined.md U10. -/
def isFlow : Instr → Bool
  | .b .. | .bd .. | .bs .. | .j .. | .jd .. | .js .. | .rts .. | .stop | .enddo => true
  | .doNAbs .. | .doNRel .. | .doDAbs .. | .doDRel .. | .doforAbs .. | .doforRel .. => true
  | _ => false

/-! ### Flags in the words of the rules (spec/10_state.md R40 to R44) -/

/-- U: the two top bits are equal (R40). -/
def notNormal {n : Nat} (r : BitVec n) : Bool := r.getMsbD 0 == r.getMsbD 1

/-- U, N and Z of a result of `n` bits and V and C as given: N the top bit, Z when all bits are 0
(R40, R41, R42). -/
def resultFlags {n : Nat} (r : BitVec n) (v c : Option Bool) : FlagUpd where
  u := some (notNormal r)
  n := some (r.getMsbD 0)
  z := some (decide (r.toNat = 0))
  v := v
  c := c

/-- `rnd16(S, RND)`: 0 below the half, 1 above it, and at the half S[16] or 1 (spec/48_or_to_rorl.md
R462). -/
def roundUp (t : Long) (rnd : Bool) : Nat :=
  if (t.extractLsb' 0 16).toNat < 0x8000 then 0
  else if 0x8000 < (t.extractLsb' 0 16).toNat then 1
  else if rnd then 1 else (t.extractLsb' 16 1).toNat

/-- The exact high half after rounding (spec/48_or_to_rorl.md R462). -/
def highRounded (t : Long) (rnd : Bool) : Int := (t.extractLsb' 16 16).toInt + roundUp t rnd

/-- `pdn_N(x) = k`: the largest `k` up to `n - 1` such that the `k` bits below the sign equal it (head
of spec/48_or_to_rorl.md). -/
def isPdn {n : Nat} (x : BitVec n) (k : Nat) : Prop :=
  k ≤ n - 1 ∧ (∀ i, i < k → x.getLsbD (n - 2 - i) = x.msb)
    ∧ (k < n - 1 → x.getLsbD (n - 2 - k) ≠ x.msb)

/-- The number of 1 bits (spec/00_scope.md R5). -/
def onesCount {n : Nat} (x : BitVec n) : Nat := (List.range n).countP fun i => x.getLsbD i

/-- The value of a normal 24E8 number times `2 ^ 150` (spec/43_cvef_to_eorl.md R304). -/
def floatValue (x : Long) : Int :=
  (if x.msb then -1 else 1) * ((2 ^ 23 + (x.extractLsb' 0 23).toNat) * 2 ^ (x.extractLsb' 23 8).toNat)

/-- The exponent field is neither 0 nor 255 (spec/43_cvef_to_eorl.md R304). -/
def isNormalFloat (x : Long) : Prop := x.extractLsb' 23 8 ≠ 0 ∧ x.extractLsb' 23 8 ≠ 255

/-- The value of a finite 24E8 number times `2 ^ 150`, the denormals among them
(spec/43_cvef_to_eorl.md R304). -/
def finiteValue (x : Long) : Int :=
  if x.extractLsb' 23 8 = 0 then (if x.msb then -1 else 1) * ((x.extractLsb' 0 23).toNat * 2)
  else floatValue x

/-- `d` is the normal 24E8 number nearest to `x / (scale * 2 ^ 150)`, of two equally near ones the one
with an even fraction: round to nearest even (spec/44_fadd_to_ftst.md R320). -/
def isNearest (x : Int) (scale : Nat) (d : Long) : Prop :=
  isNormalFloat d ∧ ∀ c : Long, c.extractLsb' 23 8 ≠ 255 →
    let near := |x - finiteValue d * scale|
    let other := |x - finiteValue c * scale|
    near ≤ other ∧ (near = other → finiteValue c = finiteValue d ∨ d.getLsbD 0 = false)

/-- V: the exact result is not the value of the `n`-bit result (R43). -/
def lost {n : Nat} (x : Int) (r : BitVec n) : Bool := decide (r.toInt ≠ x)

/-- Bit `n` of the sum of the zero-extended operands and a carry in (R44). -/
def carryOut {n : Nat} (a b : BitVec n) (cin : Bool) : Bool :=
  (a.setWidth (n + 1) + b.setWidth (n + 1) + (BitVec.ofBool cin).setWidth (n + 1)).getLsbD n

end Machine
end Sys2Proof
end

