-- ==== Sys2Proof/Certificates/Slice0/Obligations.lean ====
section
/-! DEFINITION. The statements for the provers: what the numbered rules of spec/ say that the
instructions and the machine do. -/

open Sys2Proof Sys2Proof.Machine

/-! ### The operations: what each writes, in every form (spec/40 to spec/49)

In each statement `f` is any form, `ex` what the transfer beside the operation writes
(`Obligations.RegisterMoves`, `ControlRegisterMoves` and `MemoryMoves` say what that is), and the
conclusion is the next state: the operation's writes and the transfer's, together, then the program
counter moves on (`after`). `b` binds the operands of the form, `b.scaled` is the identity unless
the instruction asks for Scaling. -/

/-- R202, R205, R213, R294, R350, R429, R483, R488: the sums and differences of 16 bits. The result is
the low 16 bits of the exact value, V says that it does not fit, C is the carry out of bit 15. With
Scaling (R121) V, U, N and Z are those of the scaled value and C is that of the unscaled sum: the
model's reading (log 15). -/
def Obligations.ShortSums : Prop :=
  ∀ (f : Form) (s : State) (ex : Effect), beside s f = .next ex →
    let b := f.binding
    let a := b.fst16 s
    let c := b.snd16 s
    let k := s.flagC
    let done : Op → Int → Option Bool → Outcome := fun op x carry =>
      let y := b.scaled op x
      let r := BitVec.ofInt 16 y
      .next (after s f { regs := [(b.dst, r)], flags := [resultFlags r (some (lost y r)) carry] } ex)
    exec (.add f) s = done .add (a.toInt + c.toInt) (some (carryOut a c false))
      ∧ exec (.adc f) s = done .adc (a.toInt + c.toInt + k.toNat) (some (carryOut a c k))
      ∧ exec (.ad1 f) s = done .ad1 (a.toInt + c.toInt + 1) none
      ∧ exec (.sub f) s = done .sub (c.toInt - a.toInt) (some (carryOut c (~~~a) true))
      ∧ exec (.sbc f) s = done .sbc (c.toInt - a.toInt - (1 - k.toNat)) (some (carryOut c (~~~a) k))
      ∧ exec (.inc f) s = done .inc (a.toInt + 1) none
      ∧ exec (.dec f) s = done .dec (a.toInt - 1) none
      ∧ exec (.neg f) s = done .neg (0 - a.toInt) none

/-- R203, R204, R206, R295, R351, R430, R484, R489: the sums and differences of 32 bits. ADC16L
extends its 16-bit operand by the sign while V = 0 and by C while V = 1, and adds it to the whole long
destination in the two-address forms (log 56). With Scaling (R121) V, U, N and Z are those of the
scaled value and C is that of the unscaled sum: the model's reading (log 15). -/
def Obligations.LongSums : Prop :=
  ∀ (f : Form) (s : State) (ex : Effect), beside s f = .next ex →
    let b := f.binding
    let a := b.fst32 s
    let c := b.snd32 s
    let k := s.flagC
    let short := b.fst16 s
    let ext : Long :=
      if s.flagV then (if k then 0xFFFF#16 else 0#16) ++ short else short.signExtend 32
    let done : Op → Int → Option Bool → Outcome := fun op x carry =>
      let y := b.scaled op x
      let r := BitVec.ofInt 32 y
      .next (after s f { regs := write32 b.dst r, flags := [resultFlags r (some (lost y r)) carry] } ex)
    exec (.addl f) s = done .addl (a.toInt + c.toInt) (some (carryOut a c false))
      ∧ exec (.adcl f) s = done .adcl (a.toInt + c.toInt + k.toNat) (some (carryOut a c k))
      ∧ exec (.adc16l f) s = done .adc16l (ext.toInt + c.toInt) (some (carryOut ext c false))
      ∧ exec (.subl f) s = done .subl (c.toInt - a.toInt) (some (carryOut c (~~~a) true))
      ∧ exec (.sbcl f) s = done .sbcl (c.toInt - a.toInt - (1 - k.toNat)) (some (carryOut c (~~~a) k))
      ∧ exec (.incl f) s = done .incl (a.toInt + 1) none
      ∧ exec (.decl f) s = done .decl (a.toInt - 1) none
      ∧ exec (.negl f) s = done .negl (0 - a.toInt) none

/-- R200, R201: the absolute values; without Scaling the most negative number stays as it is with
V = 1, and N and C are not written. -/
def Obligations.AbsoluteValues : Prop :=
  ∀ (f : Form) (s : State) (ex : Effect), beside s f = .next ex →
    let b := f.binding
    let a := b.fst16 s
    let c := b.fst32 s
    let y := b.scaled .abs |a.toInt|
    let r := BitVec.ofInt 16 y
    let yl := b.scaled .absl |c.toInt|
    let rl := BitVec.ofInt 32 yl
    exec (.abs f) s = .next (after s f
        { regs := [(b.dst, r)]
          flags := [{ resultFlags r (some (lost y r)) none with n := none }] } ex)
      ∧ exec (.absl f) s = .next (after s f
          { regs := write32 b.dst rl
            flags := [{ resultFlags rl (some (lost yl rl)) none with n := none }] } ex)
      ∧ (b.scale = false → r = (if a.msb then 0 - a else a) ∧ lost y r = decide (a = 0x8000)
          ∧ rl = (if c.msb then 0 - c else c) ∧ lost yl rl = decide (c = 0x80000000))

/-- R207, R208, R331, R462, R490, R491: rounding to the high half, by RND = CCR[9]; the two modes are
the spec's own choice (D26, log 49). V is the overflow of the sum or of the rounding step, C the carry
of the sum. Scaling (R121) stands behind the rounding, V keeps the overflow of the unscaled sum
beside that of the scaled value, and C is unscaled: the model's reading (log 15). -/
def Obligations.Rounding : Prop :=
  ∀ (f : Form) (s : State) (ex : Effect), beside s f = .next ex →
    let b := f.binding
    let a := b.fst32 s
    let c := b.snd32 s
    let long : Op → Int → Long → Bool → Outcome := fun op x t carry =>
      let y := b.scaled op (highRounded t s.rnd * 65536)
      let r := BitVec.ofInt 32 y
      .next (after s f { regs := write32 b.dst r
                         flags := [resultFlags r (some (lost x t || lost y r)) (some carry)] } ex)
    let short : Op → Int → Long → Bool → Outcome := fun op x t carry =>
      let y := b.scaled op (highRounded t s.rnd)
      let r := BitVec.ofInt 16 y
      .next (after s f { regs := [(b.dst, r)]
                         flags := [resultFlags r (some (lost x t || lost y r)) (some carry)] } ex)
    let rounded := BitVec.ofInt 32 (highRounded a s.rnd * 65536)
    exec (.addlr f) s = long .addlr (a.toInt + c.toInt) (a + c) (carryOut a c false)
      ∧ exec (.sublr f) s = long .sublr (c.toInt - a.toInt) (c - a) (carryOut c (~~~a) true)
      ∧ exec (.addlrtr f) s = short .addlrtr (a.toInt + c.toInt) (a + c) (carryOut a c false)
      ∧ exec (.sublrtr f) s = short .sublrtr (c.toInt - a.toInt) (c - a) (carryOut c (~~~a) true)
      ∧ exec (.ftrl f) s = short .ftrl a.toInt a
          (carryOut (a.extractLsb' 16 16) (BitVec.ofNat 16 (roundUp a s.rnd)) false)
      ∧ exec (.rndl f) s = .next (after s f
          { regs := write32 b.dst rounded
            flags := [resultFlags rounded (some (lost (highRounded a s.rnd * 65536) rounded))
            (some (carryOut (a.extractLsb' 16 16 ++ 0#16) (BitVec.ofNat 32 (roundUp a s.rnd * 65536))
              false))] } ex)

/-- R212, R235, R482, R492: the operations on two 16-bit halves at once; no carry passes between the
halves. With Scaling (R121) each half is scaled by itself, and C of ADDX and SUBX is that of the
unscaled halves: the model's reading (log 15). -/
def Obligations.HalfPairs : Prop :=
  ∀ (f : Form) (s : State) (ex : Effect), beside s f = .next ex →
    let b := f.binding
    let ar := (b.fst32 s).extractLsb' 16 16
    let ai := (b.fst32 s).extractLsb' 0 16
    let cr := (b.snd32 s).extractLsb' 16 16
    let ci := (b.snd32 s).extractLsb' 0 16
    let done : Int → Int → (Half → Half → Bool → FlagUpd) → Outcome := fun yr yi flags =>
      let r := BitVec.ofInt 16 yr
      let i := BitVec.ofInt 16 yi
      .next (after s f { regs := write32 b.dst (r ++ i), flags := [flags r i (lost yr r || lost yi i)] }
        ex)
    exec (.addx f) s = done (b.scaled .addx (ar.toInt + cr.toInt)) (b.scaled .addx (ai.toInt + ci.toInt))
        (fun r i v => { resultFlags r (some v) (some (carryOut ar cr false)) with
          u := some (notNormal r && notNormal i) })
      ∧ exec (.subx f) s = done (b.scaled .subx (cr.toInt - ar.toInt)) (b.scaled .subx (ci.toInt - ai.toInt))
          (fun r i v => { resultFlags r (some v) (some (carryOut cr (~~~ar) true)) with
            u := some (notNormal r && notNormal i) })
      ∧ exec (.ash f) s = done (b.scaled .ash (ar.toInt + ai.toInt)) (b.scaled .ash (ci.toInt - cr.toInt))
          (fun sum dif v => { resultFlags sum (some v) (some (dif.getMsbD 0)) with
            u := some (notNormal sum && notNormal dif) })
      ∧ exec (.sah f) s = done (b.scaled .sah (ar.toInt - ai.toInt)) (b.scaled .sah (ci.toInt + cr.toInt))
          (fun dif sum v => { resultFlags sum (some v) (some (sum.getMsbD 0)) with
            u := some (notNormal sum && notNormal dif), n := some (dif.getMsbD 0) })

/-- R209, R210, R211: sum and difference in one instruction. While DD = 0 they go to two registers, of
which one is a source; while DD = 1 a three-address form writes both to one wider destination. When
both results go to one pair of registers, it takes one of them (spec/93_implementation_defined.md
U8): one draw for the whole pair, so that its halves do not mix, is the model's choice (log 24); for
ADDSUB the two writes stand side by side and `Obligations.CompetingWrites` says so. Scaling (R121)
takes each result by itself and leaves C unscaled: the model's reading (log 15). ADDSUB with DD = 1
and an odd destination is in `Obligations.RefusedCombinations`. -/
def Obligations.SumsAndDifferences : Prop :=
  ∀ (f : Form) (s : State) (ex : Effect), beside s f = .next ex →
    let b := f.binding
    let d1 := if b.three then b.dst else b.fstReg
    let d2 := if b.three then b.snd else b.dst
    let a := b.fst16 s
    let c := b.snd16 s
    let al := b.fst32 s
    let cl := b.snd32 s
    let hi := fun x : Long => (x.extractLsb' 16 16).toInt
    let lo := fun x : Long => (x.extractLsb' 0 16).toInt
    let ys := b.scaled .addsub (a.toInt + c.toInt)
    let yd := b.scaled .addsub (c.toInt - a.toInt)
    let sum := BitVec.ofInt 16 ys
    let dif := BitVec.ofInt 16 yd
    let flags16 : FlagUpd := { resultFlags sum (some (lost ys sum || lost yd dif))
      (some (carryOut a c false)) with u := some (notNormal sum && notNormal dif) }
    let zs := b.scaled .addsubl (al.toInt + cl.toInt)
    let zd := b.scaled .addsubl (cl.toInt - al.toInt)
    let suml := BitVec.ofInt 32 zs
    let difl := BitVec.ofInt 32 zd
    let flags32 : FlagUpd := { resultFlags suml (some (lost zs suml || lost zd difl))
      (some (carryOut al cl false)) with u := some (notNormal suml && notNormal difl) }
    let xsr := b.scaled .addsubx (hi al + hi cl)
    let xsi := b.scaled .addsubx (lo al + lo cl)
    let xdr := b.scaled .addsubx (hi cl - hi al)
    let xdi := b.scaled .addsubx (lo cl - lo al)
    let sr := BitVec.ofInt 16 xsr
    let si := BitVec.ofInt 16 xsi
    let dr := BitVec.ofInt 16 xdr
    let di := BitVec.ofInt 16 xdi
    let flagsX : FlagUpd := { resultFlags sr
      (some (lost xsr sr || lost xdr dr || lost xsi si || lost xdi di)) (some (dr.getMsbD 0)) with
      u := some (notNormal sr && notNormal dr && notNormal si && notNormal di) }
    let done : List (RegNo × Half) → FlagUpd → Outcome := fun regs fl =>
      .next (after s f { regs := regs, flags := [fl] } ex)
    (s.dd = false → formStop s .addsub f = none →
        exec (.addsub f) s = done [(d1, sum), (d2, dif)] flags16
        ∧ (d1 ≠ d2 → exec (.addsubl f) s = done (write32 d1 suml ++ write32 d2 difl) flags32
          ∧ exec (.addsubx f) s = done (write32 d1 (sr ++ si) ++ write32 d2 (dr ++ di)) flagsX)
        ∧ (d1 = d2 →
          (∃ v ∈ [suml, difl], exec (.addsubl f) s = done (write32 d1 v) flags32)
          ∧ ∃ v ∈ [sr ++ si, dr ++ di], exec (.addsubx f) s = done (write32 d1 v) flagsX))
      ∧ (s.dd = true → b.three = true →
        (isEven b.dst = true → exec (.addsub f) s = done (write32 b.dst (dif ++ sum)) flags16)
        ∧ exec (.addsubl f) s = done (write64 b.dst (suml ++ difl)) flags32
        ∧ exec (.addsubx f) s = done (write64 b.dst ((sr ++ si) ++ (dr ++ di))) flagsX)

/-- R230, R231, R233, R302, R432, R450, R451, R453, R455: the logic operations of 16 bits and PACK;
neither V nor C is written. -/
def Obligations.ShortLogic : Prop :=
  ∀ (f : Form) (s : State) (ex : Effect), beside s f = .next ex →
    let b := f.binding
    let a := b.fst16 s
    let c := b.snd16 s
    let done : Half → Outcome := fun r =>
      .next (after s f { regs := [(b.dst, r)], flags := [resultFlags r none none] } ex)
    exec (.and f) s = done (a &&& c)
      ∧ exec (.andc f) s = done (~~~a &&& c)
      ∧ exec (.andi f) s = done (~~~(a &&& c))
      ∧ exec (.or f) s = done (a ||| c)
      ∧ exec (.orc f) s = done (a ||| ~~~c)
      ∧ exec (.ori f) s = done (~~~(a ||| c))
      ∧ exec (.eor f) s = done (a ^^^ c)
      ∧ exec (.not f) s = done (~~~a)
      ∧ exec (.pack f) s = done (c.extractLsb' 8 8 ++ a.extractLsb' 8 8)

/-- R232, R234, R303, R352, R433, R452, R454, R456, R493: the logic operations of 32 bits, PACKL, SWL
and INSL, where a 0 in the mask S2 selects the bit of S1 and a 1 keeps that of D. -/
def Obligations.LongLogic : Prop :=
  ∀ (f : Form) (s : State) (ex : Effect), beside s f = .next ex →
    let b := f.binding
    let a := b.fst32 s
    let c := b.snd32 s
    let d := b.dst32 s
    let done : Long → Outcome := fun r =>
      .next (after s f { regs := write32 b.dst r, flags := [resultFlags r none none] } ex)
    exec (.andl f) s = done (a &&& c)
      ∧ exec (.andcl f) s = done (~~~a &&& c)
      ∧ exec (.orl f) s = done (a ||| c)
      ∧ exec (.orcl f) s = done (a ||| ~~~c)
      ∧ exec (.eorl f) s = done (a ^^^ c)
      ∧ exec (.notl f) s = done (~~~a)
      ∧ exec (.packl f) s = done (c.extractLsb' 16 16 ++ a.extractLsb' 16 16)
      ∧ exec (.swl f) s = done (a.extractLsb' 0 16 ++ a.extractLsb' 16 16)
      ∧ (formStop s .insl f = none → exec (.insl f) s = done ((~~~c &&& a) ||| (c &&& d)))

/-- R265, R266, R296, R297, R329, R330, R494, R495: clears and transits write no flag; FTR and FTRFL
widen; DISPFX and DISPX unpack two bytes, V and C taking Z and N of the imaginary half. With Scaling
(R121) each half of DISPX is scaled by itself and all its flags are those of the scaled halves: the
model's reading (log 15). -/
def Obligations.ClearsAndWidening : Prop :=
  ∀ (f : Form) (s : State) (ex : Effect), beside s f = .next ex →
    let b := f.binding
    let a := b.fst16 s
    let plain : List (RegNo × Half) → Outcome := fun regs => .next (after s f { regs := regs } ex)
    let long : Long → Outcome := fun r =>
      .next (after s f { regs := write32 b.dst r, flags := [resultFlags r none none] } ex)
    let halves : Half → Half → Outcome := fun r i =>
      .next (after s f { regs := write32 b.dst (r ++ i)
                         flags := [{ resultFlags r (some (decide (i = 0))) (some (i.getMsbD 0)) with
                                     u := some (notNormal r && notNormal i) }] } ex)
    exec (.clr f) s = plain [(b.dst, 0)]
      ∧ exec (.clrl f) s = plain (write32 b.dst 0)
      ∧ exec (.tr f) s = plain [(b.dst, a)]
      ∧ exec (.trl f) s = plain (write32 b.dst (b.fst32 s))
      ∧ exec (.ftr f) s = long (a.signExtend 32)
      ∧ exec (.ftrfl f) s = long (a ++ 0#16)
      ∧ exec (.dispfx f) s = halves (a.extractLsb' 8 8 ++ 0#8) (a.extractLsb' 0 8 ++ 0#8)
      ∧ exec (.dispx f) s = halves (BitVec.ofInt 16 (b.scaled .dispx (a.extractLsb' 8 8).toInt))
          (BitVec.ofInt 16 (b.scaled .dispx (a.extractLsb' 0 8).toInt))

/-- R267, R269, R270, R271: the compares write only flags, those of `d - a` and of `|d| - |a|`; the
magnitude compares leave V (D9, the spec's own choice). That the flags of the magnitude difference are
taken at the operands' width, the magnitude of the most negative number being `2^(n-1)`, is the
model's reading (log 42). -/
def Obligations.Compares : Prop :=
  ∀ (f : Form) (s : State) (ex : Effect), beside s f = .next ex →
    let b := f.binding
    let a := b.fst16 s
    let d := b.dst16 s
    let al := b.fst32 s
    let dl := b.dst32 s
    let done : FlagUpd → Outcome := fun fl => .next (after s f { flags := [fl] } ex)
    exec (.cmp f) s = done (resultFlags (d - a) (some (lost (d.toInt - a.toInt) (d - a)))
        (some (carryOut d (~~~a) true)))
      ∧ exec (.cmpl f) s = done (resultFlags (dl - al) (some (lost (dl.toInt - al.toInt) (dl - al)))
          (some (carryOut dl (~~~al) true)))
      ∧ exec (.cmpm f) s = done (resultFlags (BitVec.ofInt 16 (|d.toInt| - |a.toInt|)) none
          (some (decide (|a.toInt| ≤ |d.toInt|))))
      ∧ exec (.cmpml f) s = done (resultFlags (BitVec.ofInt 32 (|dl.toInt| - |al.toInt|)) none
          (some (decide (|al.toInt| ≤ |dl.toInt|))))

/-- R263, R264, R332, R496, R497, R498: the tests write only flags. BTST counts four bits of the bit
number; BTSTL five up to 31 and four above. -/
def Obligations.TestsOfOperands : Prop :=
  ∀ (f : Form) (s : State) (ex : Effect), beside s f = .next ex →
    let b := f.binding
    let a := b.fst16 s
    let al := b.fst32 s
    let r := al.extractLsb' 16 16
    let i := al.extractLsb' 0 16
    let bit := if a.toNat ≤ 31 then a.toNat else a.toNat % 16
    let done : FlagUpd → Outcome := fun fl => .next (after s f { flags := [fl] } ex)
    exec (.tst f) s = done (resultFlags a none none)
      ∧ exec (.tstl f) s = done (resultFlags al none none)
      ∧ exec (.tstx f) s = done { resultFlags r (some (decide (i = 0))) (some (i.getMsbD 0)) with
          u := some (notNormal r && notNormal i) }
      ∧ exec (.ftst f) s = done { n := some (al.getMsbD 0)
                                  z := some (decide (al.extractLsb' 0 31 = 0))
                                  v := some (decide (al.extractLsb' 23 8 = 0xFF)) }
      ∧ exec (.btst f) s = done { c := some ((b.dst16 s).getLsbD (a.toNat % 16)) }
      ∧ exec (.btstl f) s = done { c := some ((b.dst32 s).getLsbD bit) }

/-- R268, R272: CMPE writes the greater exponent, the difference and E; CS2 selects the greater half of
each operand and shifts the selection bits into AC0 and AC1. The comparisons are signed (the spec's own
decision D15). That CMPE has three operands and writes RL[D], as R268 says, where R131 lists it among the
compares that write nothing, is the model's reading (log 56). -/
def Obligations.SelectionWithRecord : Prop :=
  ∀ (f : Form) (s : State) (ex : Effect), beside s f = .next ex →
    let b := f.binding
    let a := b.fst16 s
    let c := b.snd16 s
    let greater := decide (c.toInt < a.toInt)
    let h1 := (b.fst32 s).extractLsb' 16 16
    let l1 := (b.fst32 s).extractLsb' 0 16
    let h2 := (b.snd32 s).extractLsb' 16 16
    let l2 := (b.snd32 s).extractLsb' 0 16
    let low1 := decide (¬ l1.toInt ≤ h1.toInt)
    let low2 := decide (¬ l2.toInt ≤ h2.toInt)
    exec (.cmpe f) s = .next (after s f
        { regs := [(b.dst, if greater then a else c), (b.dst + 1, if greater then a - c else c - a)]
          flags := [{ e := some greater }] } ex)
      ∧ exec (.cs2 f) s = .next (after s f
          { regs := [(b.dst, if low1 then l1 else h1), (b.dst + 1, if low2 then l2 else h2)]
            ctrl := [(.ac0, s.ac0 <<< 1 ||| (BitVec.ofBool low1).setWidth 32),
                     (.ac1, s.ac1 <<< 1 ||| (BitVec.ofBool low2).setWidth 32)]
            flags := [{ n := some !low2, c := some !low1 }] } ex)

/-- R384 to R391: the extrema select an operand; C says that the first was selected, V is not
written. The magnitude forms compare magnitudes and write the operand itself; their flags are the
spec's own choice (D9). That a two-address form writes the old d beside a transfer into d is the model's
choice (log 59). -/
def Obligations.Extrema : Prop :=
  ∀ (f : Form) (s : State) (ex : Effect), beside s f = .next ex →
    let b := f.binding
    let a := b.fst16 s
    let c := b.snd16 s
    let al := b.fst32 s
    let cl := b.snd32 s
    let short : Bool → Outcome := fun g =>
      let r := if g then a else c
      .next (after s f { regs := [(b.dst, r)], flags := [resultFlags r none (some g)] } ex)
    let long : Bool → Outcome := fun g =>
      let r := if g then al else cl
      .next (after s f { regs := write32 b.dst r, flags := [resultFlags r none (some g)] } ex)
    exec (.max f) s = short (decide (a.toInt > c.toInt))
      ∧ exec (.maxm f) s = short (decide (|a.toInt| > |c.toInt|))
      ∧ exec (.min f) s = short (decide (a.toInt < c.toInt))
      ∧ exec (.minm f) s = short (decide (|a.toInt| < |c.toInt|))
      ∧ exec (.maxl f) s = long (decide (al.toInt > cl.toInt))
      ∧ exec (.maxml f) s = long (decide (|al.toInt| > |cl.toInt|))
      ∧ exec (.minl f) s = long (decide (al.toInt < cl.toInt))
      ∧ exec (.minml f) s = long (decide (|al.toInt| < |cl.toInt|))

/-- R236, R237, R239 to R242, R356, R357, R359, R360: the shifts of one value by the six low bits of the
count, or by `#5`. C is the last bit shifted out; ASL and ASLL write V and leave N, LSR and LSRL
leave N, the others leave V. ASRLE shifts D in place while E = 1 and S2 in place while E = 0, by the
whole count register; a count of 32 or more gives 0 with C = 0. -/
def Obligations.Shifts : Prop :=
  ∀ (f : Form) (s : State) (ex : Effect), beside s f = .next ex →
    let b := f.binding
    let n := (b.fst16 s).toNat % 64
    let x := b.snd16 s
    let xl := b.snd32 s
    let out := decide (1 ≤ n ∧ n ≤ 16) && x.getLsbD (16 - n)
    let outl := decide (1 ≤ n ∧ n ≤ 32) && xl.getLsbD (32 - n)
    let left := BitVec.ofNat 16 (x.toNat * 2 ^ n)
    let leftl := BitVec.ofNat 32 (xl.toNat * 2 ^ n)
    let right := BitVec.ofNat 16 (x.toNat / 2 ^ n)
    let rightl := BitVec.ofNat 32 (xl.toNat / 2 ^ n)
    let arith := BitVec.ofInt 16 (x.toInt / 2 ^ n)
    let arithl := BitVec.ofInt 32 (xl.toInt / 2 ^ n)
    let m := (b.fst16 s).toNat
    let t := if s.flagE then b.dst else b.snd
    let y := s.r32 t
    let inPlace := if m < 32 then BitVec.ofInt 32 (y.toInt / 2 ^ m) else 0
    let short : Half → FlagUpd → Outcome := fun r fl =>
      .next (after s f { regs := [(b.dst, r)], flags := [fl] } ex)
    let long : Long → FlagUpd → Outcome := fun r fl =>
      .next (after s f { regs := write32 b.dst r, flags := [fl] } ex)
    exec (.lsl f) s = short left (resultFlags left none (some out))
      ∧ exec (.lsll f) s = long leftl (resultFlags leftl none (some outl))
      ∧ exec (.asl f) s = short left { resultFlags left (some (lost (x.toInt * 2 ^ n) left)) (some out)
          with n := none }
      ∧ exec (.asll f) s = long leftl { resultFlags leftl (some (lost (xl.toInt * 2 ^ n) leftl))
          (some outl) with n := none }
      ∧ exec (.lsr f) s = short right { resultFlags right none
          (some (decide (1 ≤ n) && x.getLsbD (n - 1))) with n := none }
      ∧ exec (.lsrl f) s = long rightl { resultFlags rightl none
          (some (decide (1 ≤ n) && xl.getLsbD (n - 1))) with n := none }
      ∧ exec (.asr f) s = short arith (resultFlags arith none
          (some (decide (1 ≤ n) && x.getLsbD (min n 16 - 1))))
      ∧ exec (.asrl f) s = long arithl (resultFlags arithl none
          (some (decide (1 ≤ n) && xl.getLsbD (min n 32 - 1))))
      ∧ exec (.asrle f) s = .next (after s f
          { regs := write32 t inPlace
            flags := [resultFlags inPlace none
              (some (decide (1 ≤ m ∧ m < 32) && y.getLsbD (m - 1)))] } ex)

/-- R238, R243, R358, R361: the shifts of both halves. ASLX and ASRX take one count; LSLX and LSRX one
for each half, bits 21:16 and 5:0 of the count operand, or `#5` for both. LSLX and LSRX put the last
bits shifted out into N and C, each the other way round. -/
def Obligations.HalfShifts : Prop :=
  ∀ (f : Form) (s : State) (ex : Effect), beside s f = .next ex →
    let b := f.binding
    let n := (b.fst16 s).toNat % 64
    let nr := match b.fst with
      | .imm5 k => k.toNat
      | _ => ((b.fst32 s).extractLsb' 16 16).toNat % 64
    let r := (b.snd32 s).extractLsb' 16 16
    let i := (b.snd32 s).extractLsb' 0 16
    let left := fun (x : Half) (k : Nat) => BitVec.ofNat 16 (x.toNat * 2 ^ k)
    let right := fun (x : Half) (k : Nat) => BitVec.ofNat 16 (x.toNat / 2 ^ k)
    let arith := fun (x : Half) (k : Nat) => BitVec.ofInt 16 (x.toInt / 2 ^ k)
    let leftOut := fun (x : Half) (k : Nat) => decide (1 ≤ k ∧ k ≤ 16) && x.getLsbD (16 - k)
    let rightOut := fun (x : Half) (k : Nat) => decide (1 ≤ k) && x.getLsbD (k - 1)
    let ovf := fun (x : Half) => lost (x.toInt * 2 ^ n) (left x n)
    let done : Half → Half → Option Bool → Option Bool → Option Bool → Outcome := fun r i nf v c =>
      .next (after s f { regs := write32 b.dst (r ++ i)
                         flags := [{ u := some (notNormal r && notNormal i)
                                     z := some (decide (r = 0) && decide (i = 0))
                                     n := nf, v := v, c := c }] } ex)
    exec (.aslx f) s = done (left r n) (left i n) none (some (ovf r || ovf i)) none
      ∧ exec (.asrx f) s = done (arith r n) (arith i n) none none none
      ∧ exec (.lslx f) s = done (left r nr) (left i n) (some (leftOut i n)) none (some (leftOut r nr))
      ∧ exec (.lsrx f) s = done (right r nr) (right i n) (some (rightOut r nr)) none
          (some (rightOut i n))

/-- R427, R428, R463 to R466: the rotates by one position through C, and the masks, which write no
flag and take six bits of the count (D12, the spec's own choice). -/
def Obligations.RotatesAndMasks : Prop :=
  ∀ (f : Form) (s : State) (ex : Effect), beside s f = .next ex →
    let b := f.binding
    let x := b.fst16 s
    let xl := b.fst32 s
    let k := s.flagC.toNat
    let n := x.toNat % 64
    let short : Half → Bool → Outcome := fun r c =>
      .next (after s f { regs := [(b.dst, r)], flags := [resultFlags r none (some c)] } ex)
    let long : Long → Bool → Outcome := fun r c =>
      .next (after s f { regs := write32 b.dst r, flags := [resultFlags r none (some c)] } ex)
    exec (.rol f) s = short (BitVec.ofNat 16 (2 * x.toNat + k)) (x.getLsbD 15)
      ∧ exec (.roll f) s = long (BitVec.ofNat 32 (2 * xl.toNat + k)) (xl.getLsbD 31)
      ∧ exec (.ror f) s = short (BitVec.ofNat 16 (x.toNat / 2 + 2 ^ 15 * k)) (x.getLsbD 0)
      ∧ exec (.rorl f) s = long (BitVec.ofNat 32 (xl.toNat / 2 + 2 ^ 31 * k)) (xl.getLsbD 0)
      ∧ exec (.mskg f) s = .next (after s f { regs := [(b.dst,
          BitVec.ofNat 16 (((b.snd16 s).toNat * 2 ^ 16 + 0xFFFF) * 2 ^ n / 2 ^ 16))] } ex)
      ∧ exec (.mskgl f) s = .next (after s f
          { regs := write32 b.dst
              (BitVec.ofNat 32 (((b.snd32 s).toNat * 2 ^ 32 + 0xFFFFFFFF) * 2 ^ n / 2 ^ 32)) } ex)

/-- R457 to R461, R485, R486: the normalisation parameters and the bit sums; only Z is written, from
the value written. PDNE and PDNLE keep D[15:0], and clear D for a zero mantissa. The parameter of a
negative number, of 0 and of -1, and Z of PDNE and PDNLE are the spec's own choice (D27). -/
def Obligations.NormalisationAndBitSums : Prop :=
  ∀ (f : Form) (s : State) (ex : Effect), beside s f = .next ex →
    let b := f.binding
    let x := b.fst16 s
    let xl := b.fst32 s
    let d := b.dst16 s
    let short : Nat → Outcome := fun k =>
      .next (after s f { regs := [(b.dst, BitVec.ofNat 16 k)], flags := [{ z := some (decide (k = 0)) }] }
        ex)
    let long : Long → Outcome := fun r =>
      .next (after s f { regs := write32 b.dst r, flags := [{ z := some (decide (r = 0)) }] } ex)
    (∃ k, isPdn x k ∧ exec (.pdn f) s = short k
        ∧ exec (.pdne f) s = long (if x = 0 then 0 else BitVec.ofNat 16 k ++ d))
      ∧ (∃ k, isPdn xl k ∧ exec (.pdnl f) s = short k
        ∧ exec (.pdnle f) s = long (if xl = 0 then 0 else BitVec.ofNat 16 k ++ d))
      ∧ (∃ k1 k2, isPdn (xl.extractLsb' 16 16) k1 ∧ isPdn (xl.extractLsb' 0 16) k2
        ∧ exec (.pdnx f) s = short (min k1 k2))
      ∧ exec (.smb f) s = short (onesCount x)
      ∧ exec (.smbl f) s = short (onesCount xl)

/-- R420 to R426: the products. MPF, MPF2, MPF2S and MPX double the product of fractions, their V being
the spec's own choice (D9, D24); MPSS, MPUU and MPYL are exact. -/
def Obligations.Products : Prop :=
  ∀ (f : Form) (s : State) (ex : Effect), beside s f = .next ex →
    let b := f.binding
    let a := b.fst16 s
    let c := b.snd16 s
    let al := b.fst32 s
    let cl := b.snd32 s
    let hi := fun x : Long => x.extractLsb' 16 16
    let lo := fun x : Long => x.extractLsb' 0 16
    let byte := fun (x : Long) (i : Nat) => (x.extractLsb' i 8).toInt
    let mpf := BitVec.ofInt 32 (2 * (a.toInt * c.toInt))
    let mpss := BitVec.ofInt 32 (a.toInt * c.toInt)
    let mpuu := BitVec.ofNat 32 (a.toNat * c.toNat)
    let mpyl := BitVec.ofInt 64 (al.toInt * cl.toInt)
    let fraction := fun x y : Half => BitVec.ofInt 16 (2 * (x.toInt * y.toInt) / 2 ^ 16)
    let ovf := fun x y : Half => decide (x = 0x8000 ∧ y = 0x8000)
    let pair : Half → Half → Bool → Outcome := fun r i v =>
      .next (after s f { regs := write32 b.dst (r ++ i)
                         flags := [{ resultFlags (r ++ i) (some v) (some (i.getMsbD 0)) with
                                     u := some (notNormal r && notNormal i) }] } ex)
    let yr := 2 * (byte al 24 * byte cl 24) + 2 * (byte al 8 * byte cl 8)
    let yi := 2 * (byte al 8 * byte cl 24) - 2 * (byte al 24 * byte cl 8)
    let re := BitVec.ofInt 16 yr
    let im := BitVec.ofInt 16 yi
    exec (.mpf f) s = .next (after s f
        { regs := write32 b.dst mpf
          flags := [resultFlags mpf (some (ovf a c)) none] } ex)
      ∧ exec (.mpss f) s = .next (after s f
          { regs := write32 b.dst mpss
            flags := [resultFlags mpss none none] } ex)
      ∧ exec (.mpuu f) s = .next (after s f
          { regs := write32 b.dst mpuu
            flags := [{ resultFlags mpuu none none with n := none }] } ex)
      ∧ exec (.mpyl f) s = .next (after s f
          { regs := write64 b.dst mpyl
            flags := [resultFlags mpyl none (some (mpyl.getLsbD 31))] } ex)
      ∧ exec (.mpf2 f) s = pair (fraction (hi al) (hi cl)) (fraction (lo al) (lo cl))
          (ovf (hi al) (hi cl) || ovf (lo al) (lo cl))
      ∧ exec (.mpf2s f) s = pair (fraction (hi al) (lo cl)) (fraction (lo al) (hi cl))
          (ovf (hi al) (lo cl) || ovf (lo al) (hi cl))
      ∧ exec (.mpx f) s = .next (after s f
          { regs := write32 b.dst (re ++ im)
            flags := [{ resultFlags re (some (lost yr re || lost yi im)) (some (im.getMsbD 0)) with
                      u := some (notNormal re && notNormal im) }] } ex)

/-- R380, R381: MAC and MACL write the old accumulator to the 64-bit destination and add the product;
Z is that of the old accumulator, the other flags are those of the new one. -/
def Obligations.MultiplyAccumulate : Prop :=
  ∀ (f : Form) (s : State) (ex : Effect), beside s f = .next ex →
    let b := f.binding
    let old : Dbl := s.ac1 ++ s.ac0
    let done : Int → Outcome := fun p =>
      let new := BitVec.ofInt 64 (old.toInt + p)
      .next (after s f
        { regs := write64 b.dst old
          ctrl := [(.ac0, new.extractLsb' 0 32), (.ac1, new.extractLsb' 32 32)]
          flags := [{ resultFlags new (some (lost (old.toInt + p) new))
                        (some (carryOut old (BitVec.ofInt 64 p) false)) with
                      z := some (decide (old = 0)) }] } ex)
    exec (.mac f) s = done ((b.fst16 s).toInt * (b.snd16 s).toInt)
      ∧ exec (.macl f) s = done ((b.fst32 s).toInt * (b.snd32 s).toInt)

/-- R382, R383: MAC2 and MMACX add two products to the two accumulators, limited to 32 bits in the
saturation mode CCR[8] and wrapped otherwise; U, N, V and C come from the new accumulators, Z from
the old ones. MAC2 writes the old accumulators to D, MMACX the complex product of the other bytes. -/
def Obligations.PairedAccumulate : Prop :=
  ∀ (f : Form) (s : State) (ex : Effect), beside s f = .next ex →
    let b := f.binding
    let al := b.fst32 s
    let cl := b.snd32 s
    let hi := fun x : Long => (x.extractLsb' 16 16).toInt
    let lo := fun x : Long => (x.extractLsb' 0 16).toInt
    let p := fun i : Nat => (al.extractLsb' (8 * i) 8).toInt
    let q := fun i : Nat => (cl.extractLsb' (8 * i) 8).toInt
    let limit : Int → Int → Int := fun top x =>
      if s.satMode then max (-top) (min (top - 1) x) else x
    let done : List (RegNo × Half) → Int → Int → Outcome := fun regs x1 x0 =>
      let n1 := BitVec.ofInt 32 (limit (2 ^ 31) x1)
      let n0 := BitVec.ofInt 32 (limit (2 ^ 31) x0)
      .next (after s f
        { regs := regs, ctrl := [(.ac0, n0), (.ac1, n1)]
          flags := [{ u := some (notNormal n1 && notNormal n0), n := some (n1.getMsbD 0)
                      z := some (decide (s.ac1 = 0) && decide (s.ac0 = 0))
                      v := some (lost x1 (BitVec.ofInt 32 x1) || lost x0 (BitVec.ofInt 32 x0))
                      c := some (n0.getMsbD 0) }] } ex)
    let re := BitVec.ofInt 16 (limit (2 ^ 15) (2 * (p 2 * q 2) + 2 * (p 0 * q 0)))
    let im := BitVec.ofInt 16 (limit (2 ^ 15) (2 * (p 0 * q 2) - 2 * (p 2 * q 0)))
    exec (.mac2 f) s = done (write64 b.dst (s.ac1 ++ s.ac0)) (s.ac1.toInt + hi al * hi cl)
        (s.ac0.toInt + lo al * lo cl)
      ∧ exec (.mmacx f) s = done (write32 b.dst (re ++ im))
          (s.ac1.toInt + (p 3 * q 3 + p 1 * q 1)) (s.ac0.toInt + (p 1 * q 3 - p 3 * q 1))

/-- R481: SAC2, whose operation the source has lost, writes both accumulators and a destination. Their
exact results are an open function that does not read CCR[8]; V says that one of them overflows
(note 6), C is the sign of the new AC0 (note 7). A result that fits is the new accumulator; one that
does not is wrapped while CCR[8] = 0 and open while CCR[8] = 1 (log 16). Nothing is said of the other
open values. -/
def Obligations.OpenAccumulate : Prop :=
  ∀ (f : Form) (s : State) (ex : Effect), beside s f = .next ex →
    let b := f.binding
    let x := Config.sac2Sums (b.fst32 s) (b.snd32 s) s.ac1 s.ac0 (s.ccr &&& 0xFEFF)
    let r := Config.sac2 (b.fst32 s) (b.snd32 s) s.ac1 s.ac0 s.ccr
    let large := fun y : Int => lost y (BitVec.ofInt 32 y)
    let new := fun (y : Int) (limit n : Long) =>
      (large y = false ∨ s.ccr.getLsbD 8 = false → n = BitVec.ofInt 32 y)
        ∧ (large y = true → s.ccr.getLsbD 8 = true → n = limit)
    ∃ n1 n0 : Long, new x.ac1 r.limit1 n1 ∧ new x.ac0 r.limit0 n0
      ∧ exec (.sac2 f) s = .next (after s f
        { regs := if r.wide then write64 b.dst r.d else write32 b.dst (r.d.extractLsb' 0 32)
          ctrl := [(.ac0, n0), (.ac1, n1)]
          flags := [{ u := some r.u, n := some r.n, z := some r.z
                      v := some (large x.ac1 || large x.ac0), c := some (n0.getMsbD 0) }] } ex)

/-- R320, R321, R322, R327, R328: FADD, FSUB (second source minus first), FMPY and FAS in terms of
`fop32`, with N, Z and V of the float result and U and C left; FAS takes the flags of the sum. Where
FAS writes both results to one pair while DD = 0, it takes one of them (U8); that its halves do not
mix is the model's choice (log 24). -/
def Obligations.FloatArithmetic : Prop :=
  ∀ (f : Form) (s : State) (ex : Effect), beside s f = .next ex →
    let b := f.binding
    let a := b.fst32 s
    let c := b.snd32 s
    let done : List (RegNo × Half) → Long → Outcome := fun regs d =>
      .next (after s f { regs := regs
                         flags := [{ n := some (d.getLsbD 31)
                                     z := some (decide (d.extractLsb' 0 31 = 0))
                                     v := some (decide (d.extractLsb' 23 8 = 0xFF)) }] } ex)
    let sum := fop32 .add a c
    let dif := fop32 .sub c a
    let prod := fop32 .mul a c
    exec (.fadd f) s = done (write32 b.dst sum) sum
      ∧ exec (.fsub f) s = done (write32 b.dst dif) dif
      ∧ exec (.fmpy f) s = done (write32 b.dst prod) prod
      ∧ (s.dd = true → exec (.fas f) s = done (write64 b.dst (sum ++ dif)) sum)
      ∧ (s.dd = false → b.dst ≠ b.snd →
          exec (.fas f) s = done (write32 b.dst sum ++ write32 b.snd dif) sum)
      ∧ (s.dd = false → b.dst = b.snd →
          ∃ v ∈ [sum, dif], exec (.fas f) s = done (write32 b.dst v) sum)

/-- R292, R320, R325: on normal operands `fop32` gives the exact value whenever a normal number has it,
and otherwise the nearest normal number, the even one of two equally near, whenever binary32 rounds
the exact value to a normal number: at least half a step of the denormals below `2^-126` and less than
half a step above the greatest finite number. The rounding step of CVFI, CVIF, FINT and the float
arithmetic is to the nearest integer, the even one of two equally near. -/
def Obligations.FloatRounding : Prop :=
  (∀ a b r : Long, isNormalFloat a → isNormalFloat b → isNormalFloat r →
      (floatValue a + floatValue b = floatValue r → fop32 .add a b = r)
        ∧ (floatValue a - floatValue b = floatValue r → fop32 .sub a b = r)
        ∧ (floatValue a * floatValue b = floatValue r * 2 ^ 150 → fop32 .mul a b = r))
    ∧ (∀ a b : Long, isNormalFloat a → isNormalFloat b →
      let rounds := fun (x : Int) (scale : Nat) (d : Long) =>
        (2 ^ 24 - 1) * scale ≤ |x| → |x| < (2 ^ 25 - 1) * 2 ^ 253 * scale → isNearest x scale d
      rounds (floatValue a + floatValue b) 1 (fop32 .add a b)
        ∧ rounds (floatValue a - floatValue b) 1 (fop32 .sub a b)
        ∧ rounds (floatValue a * floatValue b) (2 ^ 150) (fop32 .mul a b))
    ∧ ∀ m k : Nat,
      let q := roundShift m k
      2 * |(q * 2 ^ k : Int) - m| ≤ 2 ^ k ∧ (2 * |(q * 2 ^ k : Int) - m| = 2 ^ k → q % 2 = 0)

/-- R290: CVEF, its conditions in the rule's order. -/
def Obligations.ExtendedToFloat : Prop :=
  ∀ (f : Form) (s : State) (ex : Effect), beside s f = .next ex →
    let b := f.binding
    let m := b.fst32 s
    let e := (b.snd16 s).toInt
    let sign := m.extractLsb' 31 1
    let mag : Long := if m.msb then 0 - m else m
    let d : Long :=
      if e = 0x7FFF then (if m.extractLsb' 0 31 = 0 then sign ++ 0xFF#8 ++ 0#23 else 0x7FFFFFFF)
      else if m = 0 then 0
      else if m = 0x80000000 then
        if e ≤ -127 then 0 else if 128 ≤ e then 0xFF800000 else 1#1 ++ BitVec.ofInt 8 (e + 127) ++ 0#23
      else if e ≤ -126 then 0
      else if 129 ≤ e then sign ++ 0xFF#8 ++ 0#23
      else sign ++ BitVec.ofInt 8 (e + 126) ++ mag.extractLsb' 7 23
    exec (.cvef f) s = .next (after s f
        { regs := write32 b.dst d
          flags := [{ n := some (d.getLsbD 31), z := some (decide (d.extractLsb' 0 31 = 0)),
                      v := some (decide (d.extractLsb' 23 8 = 0xFF)) }] } ex)

/-- R291: CVFE splits a float into a mantissa and an exponent; while DD = 0 the exponent goes to `s2`,
while DD = 1 both go to the 64-bit D, whose bits 63:48 stay (log 51). V and C are two free values
(log 23). Where `s2` is a half of D its two writes compete (log 57). -/
def Obligations.FloatToExtended : Prop :=
  ∀ (f : Form) (s : State) (ex : Effect), beside s f = .next ex → formStop s .cvfe f = none →
    let b := f.binding
    let x := b.fst32 s
    let e := x.extractLsb' 23 8
    let fr := x.extractLsb' 0 23
    let exp : Half :=
      if e = 0 then 0 else if e = 0xFF then 0x7FFF else BitVec.ofInt 16 ((e.toNat : Int) - 126)
    let man : Long :=
      if e = 0 then 0
      else if e = 0xFF then (if fr = 0 then x.extractLsb' 31 1 ++ 0#31 else 0x7FFFFFFF)
      else if x.msb then 0 - (1#2 ++ fr ++ 0#7) else 1#2 ++ fr ++ 0#7
    let flags : FlagUpd :=
      resultFlags man (some (Config.freeBit s.draws 1)) (some (Config.freeBit s.draws 0))
    (s.dd = false → exec (.cvfe f) s = .next (after s f
        { regs := (b.snd, exp) :: write32 b.dst man, flags := [flags] } ex))
      ∧ (s.dd = true → exec (.cvfe f) s = .next (after s f
        { regs := write32 b.dst man ++ [(b.dst + 2, exp)], flags := [flags] } ex))

/-- R292, R293: CVFI rounds to the nearest integer and limits, with V = 1 when it limits or the operand
is a NaN; CVIF gives the nearest float, the even one of two equally near, and so is exact for a
magnitude up to `2 ^ 24`. -/
def Obligations.IntegerConversions : Prop :=
  ∀ (f : Form) (s : State) (ex : Effect), beside s f = .next ex →
    let b := f.binding
    let x := b.fst32 s
    let e := (x.extractLsb' 23 8).toNat
    let sig := 2 ^ 23 + (x.extractLsb' 0 23).toNat
    let mag := if 150 ≤ e then sig * 2 ^ (e - 150) else roundShift sig (150 - e)
    let val : Int := if x.msb then -mag else mag
    let int : Long × Bool :=
      if e = 0 then (0, false)
      else if e = 255 ∧ x.extractLsb' 0 23 ≠ 0 then (0, true)
      else if val > 2 ^ 31 - 1 then (0x7FFFFFFF, true)
      else if val < -2 ^ 31 then (0x80000000, true)
      else (BitVec.ofInt 32 val, false)
    exec (.cvfi f) s = .next (after s f
        { regs := write32 b.dst int.1
          flags := [resultFlags int.1 (some int.2) none] } ex)
      ∧ ∃ d : Long, (x = 0 → d = 0) ∧ d.msb = x.msb
        ∧ (x ≠ 0 → isNearest (x.toInt * 2 ^ 150) 1 d
          ∧ (x.toInt.natAbs ≤ 2 ^ 24 → floatValue d = x.toInt * 2 ^ 150))
        ∧ exec (.cvif f) s = .next (after s f
            { regs := write32 b.dst d
              flags := [{ n := some (d.getLsbD 31), z := some (decide (d = 0)) }] } ex)

/-- R323, R324: FIN and FINR. FIN is exact for a power of two, FINR for one with an even exponent; for
any other normal operand the exponent field is the rule's and the fraction is open, that of FINR with
an odd exponent being the model's reading of the table (log 44). FIN of an infinity is zero with its
sign, FINR of the positive one is 0. V reports S = 0 and QNaN, for FINR also S < 0, and is 0 elsewhere:
for another NaN and for a denormal this is the model's reading (log 19). U and C are left, and N by
FINR. -/
def Obligations.ReciprocalSeeds : Prop :=
  ∀ (f : Form) (s : State) (ex : Effect), beside s f = .next ex →
    let b := f.binding
    let x := b.fst32 s
    let e := x.extractLsb' 23 8
    let fr := x.extractLsb' 0 23
    let n : Int := e.toNat - 127
    let mag := fun d : Long => d.extractLsb' 0 31
    ∃ d dr : Long, ∃ v vr : Bool,
      exec (.fin f) s = .next (after s f
          { regs := write32 b.dst d
            flags := [{ n := some (d.getLsbD 31), z := some (decide (mag d = 0)), v := some v }] } ex)
        ∧ exec (.finr f) s = .next (after s f
            { regs := write32 b.dst dr
              flags := [{ z := some (decide (mag dr = 0)), v := some vr }] } ex)
        ∧ v = (decide (mag x = 0) || decide (x = 0x7FFFFFFF))
        ∧ vr = (v || (x.msb && !(decide (e = 255) && decide (fr ≠ 0))))
        ∧ (e = 255 ∧ fr = 0 → d = x.extractLsb' 31 1 ++ 0#31 ∧ v = false)
        ∧ (fr = 0 ∧ 1 ≤ e.toNat ∧ e.toNat ≤ 253 →
          d = x.extractLsb' 31 1 ++ BitVec.ofInt 8 (127 - n) ++ 0#23 ∧ v = false)
        ∧ (fr ≠ 0 ∧ 1 ≤ e.toNat ∧ e.toNat ≤ 252 →
          d.extractLsb' 23 9 = x.extractLsb' 31 1 ++ BitVec.ofInt 8 (126 - n) ∧ v = false)
        ∧ (x = 0x7F800000 → dr = 0 ∧ vr = false)
        ∧ (x.msb = false ∧ 1 ≤ e.toNat ∧ e.toNat ≤ 254 → vr = false
          ∧ (n % 2 = 0 ∧ fr = 0 → dr = 0#1 ++ BitVec.ofInt 8 (127 - n / 2) ++ 0#23)
          ∧ (n % 2 = 0 ∧ fr ≠ 0 → dr.extractLsb' 23 9 = BitVec.ofInt 9 (127 - (n / 2 + 1)))
          ∧ (n % 2 = 1 → dr.extractLsb' 23 9 = BitVec.ofInt 9 (127 - (n + 1) / 2)))
        ∧ (mag x = 0 ∨ x = 0x7FFFFFFF → v = true ∧ vr = true)
        ∧ (x.msb = true ∧ 1 ≤ e.toNat ∧ e.toNat ≤ 254 → vr = true)

/-- R325, R326: FINT gives the nearest integer, the even one of two equally near; FLOOR the greatest
integer not above S; an operand of exponent 150 or more stays as it is, and a zero gives a zero, whose
sign alone is open (U15), as is the whole result of a denormal operand. An infinity or a NaN stays as it
is, too: so R325 says of FINT, of FLOOR it is the model's choice (log 58). -/
def Obligations.IntegralFloats : Prop :=
  ∀ (f : Form) (s : State) (ex : Effect), beside s f = .next ex →
    let b := f.binding
    let x := b.fst32 s
    let e := (x.extractLsb' 23 8).toNat
    let one : Int := 2 ^ 150
    let done : Long → Outcome := fun d =>
      .next (after s f { regs := write32 b.dst d
                         flags := [{ n := some (d.getLsbD 31)
                                     z := some (decide (d.extractLsb' 0 31 = 0))
                                     v := some (decide (d.extractLsb' 23 8 = 0xFF)) }] } ex)
    let holds := fun (d : Long) (n : Int) =>
      (n = 0 → d.extractLsb' 0 31 = 0) ∧ (n ≠ 0 → isNormalFloat d ∧ floatValue d = n * one)
    ∃ near floor : Long, exec (.fint f) s = done near ∧ exec (.floor f) s = done floor
      ∧ (150 ≤ e → near = x ∧ floor = x)
      ∧ (x.extractLsb' 0 31 = 0 → near.extractLsb' 0 31 = 0 ∧ floor.extractLsb' 0 31 = 0)
      ∧ (1 ≤ e ∧ e < 150 →
        (∃ n : Int, 2 * |n * one - floatValue x| ≤ one
          ∧ (2 * |n * one - floatValue x| = one → n % 2 = 0) ∧ holds near n)
        ∧ ∃ n : Int, n * one ≤ floatValue x ∧ floatValue x < (n + 1) * one ∧ holds floor n)

/-! ### The step, the decoder and the encoder -/

/-- R9: a step in the running state is `exec` of the instruction that the words at PC stand for;
nothing is added around it, since `exec` itself moves the program counter (`after`, `advance`). -/
def Obligations.StepRunsDecoded : Prop :=
  ∀ (s : State) (i : Instr), s.running = true → s.fetchable = true →
    decode s.launch (s.fetch s.pc) (s.fetch (s.pc + 1)) = .ok i → step s = exec i s

/-- R79, R552: no step is taken in the stopped state, and a fetch at or beyond PRAM_WORDS leaves the core
stuck; the second word of a two-word instruction counts. -/
def Obligations.WhereNoStepIsTaken : Prop :=
  (∀ s : State, s.dcsr.getLsbD 14 = false → step s = .fault .halted)
    ∧ ∀ s : State, s.running = true →
    (s.launch.pramWords ≤ s.pc.toNat → step s = .fault (.fetchOutside s.pc))
      ∧ (s.pc.toNat < s.launch.pramWords → isTwoWords s.launch (s.fetch s.pc) = true →
        s.launch.pramWords ≤ (s.pc + 1).toNat → step s = .fault (.fetchOutside (s.pc + 1)))

/-- R128, U1, U2, U19: what belongs to no instruction is refused, and a refused decoding is a refused
step. First the list of R128 as words: the format code 1111; other bits in NOP, ENDDO and STOP; the
opcodes that the map leaves unassigned; the OP2 codes reserved for a value of `#`; an OP2 opcode in
the OP1 field; an OP1 opcode with `#` = 1; the opcode of MOVE in the formats 1, 2, 3, 5, 7; the cells
printed 0. The codes that a launch gives to the lost instructions (R4) are left out. Then what every
accepted word satisfies: its operation is printed for its format, M = 1 stands only beside an
operation that offers it, long and double operands are even, a 16-bit immediate has zeros above it,
and no memory transfer beside an operation, nor MOVE of one word, is in the immediate mode. The table
`Op.info` says which formats and which operations; where the spec leaves them open, log 54 to 56. -/
def Obligations.ReservedWordsAreRefused : Prop :=
  (∀ (s : State) (e : DecodeError), s.running = true → s.fetchable = true →
      decode s.launch (s.fetch s.pc) (s.fetch (s.pc + 1)) = .error e →
      step s = .refused (.reserved e))
    ∧ (∀ (l : Launch) (w w2 : Long), w.extractLsb' 7 4 = 0b1111#4 →
      decode l w w2 = .error .formatUnused)
    ∧ (∀ (l : Launch) (w w2 : Long), w.extractLsb' 7 4 = 0b0011#4 →
      (w.extractLsb' 0 7 = 0 → w ≠ 0x00000180 → decode l w w2 = .error .nonzeroCell)
        ∧ (w.extractLsb' 0 7 = 0b0011011#7 → w ≠ 0x0000019B → decode l w w2 = .error .nonzeroCell)
        ∧ (w.extractLsb' 0 7 = 0b1011110#7 → w ≠ 0xF80001DE → decode l w w2 = .error .nonzeroCell))
    ∧ (∀ (l : Launch) (w w2 : Long),
      let opcode := w.extractLsb' 0 7
      let format := w.extractLsb' 7 4
      let code := w2.extractLsb' 0 5
      let hash := w2.getLsbD 5
      let free := fun (c : BitVec 5) (h : Bool) =>
        l.mpf2sCode ≠ some (c, h) ∧ l.mpylCode ≠ some (c, h) ∧ l.addlOp2Code ≠ some (c, h)
      let refused := ∃ e, decode l w w2 = .error e
      let noRts := format = 0b0011#4 → l.rtsWord = none
      -- the opcode maps
      (opcode ∈ [0b1001011#7, 0b1010000#7, 0b1010011#7, 0b1010111#7] →
          l.cvfeOpcode ≠ some opcode → noRts → refused)
        ∧ (format = 0b0000#4 → (code, hash) ∈ [(0b00000#5, true), (0b00011#5, true), (0b00111#5, false),
          (0b00111#5, true), (0b01101#5, true), (0b01111#5, true), (0b10011#5, true), (0b11110#5, true),
          (0b11111#5, false)] → free code hash → refused)
        ∧ (format = 0b0000#4 → opcode.extractLsb' 5 2 = 0b11#2 → l.cvfeOpcode ≠ some opcode → refused)
        ∧ (opcode.extractLsb' 5 2 ≠ 0b11#2 →
          (format = 0b0001#4 ∧ w.getLsbD 16 = true)
            ∨ ((w.extractLsb' 9 2 ∈ [0b01#2, 0b10#2] ∨ w.extractLsb' 8 3 = 0b110#3)
              ∧ w.getLsbD 7 = true) → refused)
        ∧ (opcode = 0b1100111#7 →
          format ∈ [0b0001#4, 0b0010#4, 0b0011#4, 0b1110#4] ∨ w.extractLsb' 8 3 = 0b110#3 →
          l.cvfeOpcode ≠ some opcode → free 0b00111 false → free 0b00111 true → noRts → refused)
        -- the cells printed 0
        ∧ (format = 0b0001#4 → w.getLsbD 15 = true → refused)
        ∧ (format = 0b0010#4 → if opcode ∈ [0b0001100#7, 0b0001101#7] then
            (w.extractLsb' 27 5 ≠ 0 ∨ w2.extractLsb' 14 18 ≠ 0 → refused)
          else (w.extractLsb' 15 2 ≠ 0 → refused))
        ∧ (format = 0b0011#4 → opcode ∈ [0b0001010#7, 0b0001011#7] → w.extractLsb' 27 5 ≠ 0 → refused)
        ∧ (format = 0b0011#4 → opcode ∈ [0b0011100#7, 0b0011101#7, 0b0011110#7, 0b0011111#7, 0b0101100#7,
          0b0101101#7] → w.getLsbD 27 = false →
          w.extractLsb' 18 9 ≠ 0 ∨ w.extractLsb' 11 4 ≠ 0 → refused)
        ∧ (w.extractLsb' 9 2 = 0b10#2 → w.getLsbD 7 = false → opcode = 0b1100111#7 →
          w.extractLsb' 29 3 ≠ 0 ∨ w.getLsbD 22 = true → refused)
        ∧ (w.extractLsb' 9 2 = 0b01#2 → w.getLsbD 7 = false → opcode = 0b1100111#7 →
          w.extractLsb' 27 5 ≠ 0 ∨ w.getLsbD 22 = true
            ∨ (w.extractLsb' 12 3 = l.modeImm ∧ w2.extractLsb' 16 16 ≠ 0) → refused)
        ∧ (format = 0b0000#4 →
          (w2.extractLsb' 6 2 = 0b01#2 ∧ w2.getLsbD 8 = true)
            ∨ (w2.extractLsb' 6 2 = 0b10#2 ∧ (w.getLsbD 11 = true ∨ w2.getLsbD 10 = true))
            ∨ (w2.extractLsb' 6 2 = 0b11#2 ∧ w2.extractLsb' 15 2 ≠ 0) → refused))
    ∧ ∀ (l : Launch) (w w2 : Long) (i : Instr), decode l w w2 = .ok i →
      (∀ op f, partsOf i = some (op, f) →
          fmtOf f ∈ op.info.formats ∧ (f.binding.scale = true → op.info.scaling = true)
            ∧ evenOperands op f.binding ∧ transferExists l f
            ∧ ∀ cc imm s2 d, f = .f2 cc imm s2 d → op.info.fst = .w16 → imm.extractLsb' 16 16 = 0)
        ∧ match i with
          | .move (.rr _ x) => x.l = true → x.rs.getLsbD 0 = false ∧ x.rd.getLsbD 0 = false
          | .move (.mem _ x) => x.mode ≠ l.modeImm
          | .frame8a i1 i2 at2 x => pairExists l i1 i2 (.a at2 x)
          | .frame8b i1 i2 at2 x => pairExists l i1 i2 (.b at2 x)
          | .frame8c i1 i2 cc rs rd => pairExists l i1 i2 (.c cc rs rd)
          | .frame8d i1 i2 x => pairExists l i1 i2 (.d x)
          | _ => True

/-- R100 to R118: words written out from the tables decode to the instruction they stand for. -/
def Obligations.PrintedWordsDecode : Prop :=
  decode .reset 0x19067884 0 = .ok (.add (.f1 15 (.reg 3) 3 4))
    ∧ decode .reset (0#5 ++ 4#5 ++ 6#5 ++ 0#2 ++ 15#4 ++ 0b0010#4 ++ 0b0100100#7) 0x12345678
      = .ok (.addl (.f2 15 0x12345678 6 4))
    ∧ decode .reset (7#5 ++ 0x00FF#16 ++ 0b0011#4 ++ 0b1000001#7) 0 = .ok (.and (.f3 0x00FF 7))
    ∧ decode .reset (3#5 ++ 8#5 ++ 2#4 ++ 5#3 ++ 0#3 ++ 0#1 ++ 0b01#2 ++ 1#1 ++ 0#1 ++ 0b0000100#7) 0
      = .ok (.add (.f4 (.reg 3) 8 ⟨2, 5, 0, false, true⟩))
    ∧ decode .reset (0b1111#4 ++ 1#1 ++ 0x1234#16 ++ 0b0011#4 ++ 0b0011101#7) 0
      = .ok (.j 15 (.imm 0x1234))
    ∧ decode .reset (0#5 ++ 0x0020#16 ++ 0b0010#4 ++ 0b0001100#7) 3 = .ok (.doNAbs 3 0x0020)
    ∧ decode .reset 0xF80001DE 0 = .ok .stop
    ∧ decode .reset 0x00000180 0 = .ok .nop

/-- R100 to R131: decoding undoes encoding, for every instruction that exists, every operand and every
launch whose open codes collide with no assigned one. A one-word instruction decodes whatever word
follows it. -/
def Obligations.DecodeUndoesEncode : Prop :=
  ∀ (l : Launch) (i : Instr), l.ok = true → WellFormed l i →
    ∃ c, encode l i = some c ∧ ∀ w2, decode l c.w (c.w2.getD w2) = .ok i

/-- R132: the length of an instruction is a function of its first word: two words for the formats 2,
2d, 7, 8 and for MOVE in the layout of format 4 with MODE_IMM. An instruction has a second word
exactly then, otherwise the word behind it is not read, and without a transfer of control PC goes
on by the length. -/
def Obligations.LengthFromFirstWord : Prop :=
  ∀ l : Launch,
    (∀ w : Long, isTwoWords l w = true ↔
        w.extractLsb' 7 4 ∈ [0b0010#4, 0b1110#4, 0b0000#4]
          ∨ (w.extractLsb' 9 2 = 0b01#2 ∧ w.getLsbD 7 = false ∧ w.extractLsb' 0 7 = 0b1100111#7
            ∧ w.extractLsb' 12 3 = l.modeImm))
      ∧ (∀ (i : Instr) (c : Code), l.ok = true → WellFormed l i → encode l i = some c →
        isTwoWords l c.w = c.w2.isSome)
      ∧ (∀ w v1 v2 : Long, isTwoWords l w = false → decode l w v1 = decode l w v2)
      ∧ ∀ (f : Form) (s : State) (e x : Effect), s.delay = none →
        (commit s ((if opHolds s f then e else {}).and x)).loopActive = false →
        (after s f e x).pc = s.pc + f.len

/-! ### Reset and the whole machine -/

/-- R60, R550: the state the core is launched in. -/
def Obligations.ResetIsTheLaunchState : Prop :=
  State.reset.dcsr.getLsbD 14 = true ∧ State.reset.dcsr.getLsbD 3 = false ∧ State.reset.sp = 0
    ∧ State.reset.cp = 0 ∧ State.reset.lc.extractLsb' 14 2 = 0 ∧ State.reset.delay = none

/-- The invariant of `StepKeepsTheInvariant` holds at reset. The launch parameters are the model's
choice (log 7 to 10). -/
def Obligations.InvariantHoldsAtReset : Prop :=
  (State.reset.wf && State.reset.launch.ok) = true

/-- Every step keeps the canonical form of both memories, the whole of program memory (R78: no
instruction stores there) and the launch parameters (R4). -/
def Obligations.StepKeepsTheInvariant : Prop :=
  ∀ s t : State, (s.wf && s.launch.ok) = true → step s = .next t →
    (t.wf && t.launch.ok) = true ∧ t.pmem = s.pmem ∧ t.launch = s.launch

/-- R29, R31, R33, R487, R552: only STOP changes DCSR, so only STOP leaves the running state; the entries
of the system stack change only by BS, JS, DO and DOFOR, which push, and those of the loop stacks
only by DO and DOFOR. -/
def Obligations.OnlyTheseChange : Prop :=
  (∀ (i : Instr) (s t : State), exec i s = .next t →
      (i ≠ .stop → t.dcsr = s.dcsr)
        ∧ (match i with
          | .bs .. | .js .. | .doNAbs .. | .doNRel .. | .doDAbs .. | .doDRel .. | .doforAbs ..
          | .doforRel .. => True
          | _ => t.ss = s.ss)
        ∧ match i with
          | .doNAbs .. | .doNRel .. | .doDAbs .. | .doDRel .. | .doforAbs .. | .doforRel .. => True
          | _ => t.csl = s.csl ∧ t.csh = s.csh)
    ∧ ∀ s t : State, step s = .next t → t.running = false → s.current = .next .stop

/-- R32, U10: the instruction in a delay slot is followed by the target, whatever it is, only a taken BD
or JD leaves a delayed transfer pending, and a program-flow instruction in the slot is refused. That it
is refused also where its own condition is false is the model's reading (log 30). -/
def Obligations.DelaySlot : Prop :=
  (∀ (i : Instr) (s t : State), exec i s = .next t →
    (∀ x, s.delay = some x → t.pc = x ∧ t.delay = none)
      ∧ (s.delay = none → t.delay ≠ none →
        ∃ cc tg, (i = .bd cc tg ∨ i = .jd cc tg) ∧ (cc = 15 ∨ Config.cond cc s.ccr = true)))
    ∧ ∀ (i : Instr) (s : State), isFlow i = true → s.delay ≠ none →
      exec i s = .refused .flowInDelaySlot

/-! ### Program flow -/

/-- R9, R301, R431: how an instruction of `len` words ends that transfers no control, with no delayed
transfer pending: behind the last instruction of an active loop, the infinite loop (LC[15]) and a
count above 1 go back to the top of the system stack, the latter counting down; a count of 1 or 0
leaves the loop. NOP does nothing but this; STOP does not end so (`Obligations.EnddoAndStop`, log 47). -/
def Obligations.LoopEnd : Prop :=
  ∀ (s : State) (len : Half), s.delay = none →
    let next := s.pc + len
    let count := (s.lc.extractLsb' 0 14).toNat
    let top := s.ss[(s.sp - 1).toNat]'(s.sp - 1).isLt
    let last := (s.lc.getLsbD 15 = true ∨ s.lc.getLsbD 14 = true) ∧ s.pc = s.la
    let done : State → Prop := fun t => advance len .fallthrough s = { t with draws := s.draws + 1 }
    (¬ last → done { s with pc := next })
      ∧ (last → s.lc.getLsbD 15 = true → done { s with pc := top })
      ∧ (last → s.lc.getLsbD 15 = false → 1 < count → done { s with pc := top, lc := s.lc - 1 })
      ∧ (last → s.lc.getLsbD 15 = false → count ≤ 1 →
        done { s with
          pc := next, sp := s.sp - 1, cp := s.cp - 1
          la := s.csl[(s.cp - 1).toNat]'(s.cp - 1).isLt
          lc := s.csh[(s.cp - 1).toNat]'(s.cp - 1).isLt })
      ∧ exec .nop s = .next (advance 1 .fallthrough s)

/-- R120, R260, R261, R262: B, BD and BS under their condition; the target is relative to the branch,
BS saves the address behind it. Under a false condition control falls through. -/
def Obligations.Branches : Prop :=
  ∀ (cc : Cond) (tg : Target) (s : State), s.delay = none →
    let x := s.pc + (match tg with
      | .imm v => v
      | .areg n => s.a[n.toNat]'n.isLt)
    let branch : State → Outcome := fun t =>
      .next (if cc == 15 || Config.cond cc s.ccr then { t with draws := s.draws + 1 }
        else advance 1 .fallthrough s)
    exec (.b cc tg) s = branch { s with pc := x }
      ∧ exec (.bd cc tg) s = branch { s with pc := s.pc + 1, delay := some x }
      ∧ exec (.bs cc tg) s = branch { s with
          pc := x, ss := s.ss.set s.sp.toNat (s.pc + 1) s.sp.isLt, sp := s.sp + 1 }

/-- R120, R353, R354, R355, R480: J, JD and JS to an absolute target and RTS to the top entry of the
system stack, which it drops, under their condition. -/
def Obligations.JumpsAndReturn : Prop :=
  ∀ (cc : Cond) (tg : Target) (s : State), s.delay = none →
    let x := match tg with
      | .imm v => v
      | .areg n => s.a[n.toNat]'n.isLt
    let branch : State → Outcome := fun t =>
      .next (if cc == 15 || Config.cond cc s.ccr then { t with draws := s.draws + 1 }
        else advance 1 .fallthrough s)
    exec (.j cc tg) s = branch { s with pc := x }
      ∧ exec (.jd cc tg) s = branch { s with pc := s.pc + 1, delay := some x }
      ∧ exec (.js cc tg) s = branch { s with
          pc := x, ss := s.ss.set s.sp.toNat (s.pc + 1) s.sp.isLt, sp := s.sp + 1 }
      ∧ exec (.rts cc) s = branch { s with
          pc := s.ss[(s.sp - 1).toNat]'(s.sp - 1).isLt, sp := s.sp - 1 }

/-- R298, R299, U13: DO and DOFOR save the address behind them on the system stack and LA and LC on the
loop stacks, then set LA and LC; a count of 0 is refused, DOFOR has none. -/
def Obligations.LoopsOpen : Prop :=
  ∀ (n : BitVec 14) (d : RegNo) (last : Half) (s : State), s.delay = none →
    let m := (s.r16 d).extractLsb' 0 14
    let entered : Half → Half → Half → Outcome := fun len la lc =>
      .next (advance len .fallthrough { s with
        ss := s.ss.set s.sp.toNat (s.pc + len) s.sp.isLt, sp := s.sp + 1
        csl := s.csl.set s.cp.toNat s.la s.cp.isLt
        csh := s.csh.set s.cp.toNat s.lc s.cp.isLt, cp := s.cp + 1
        la := la, lc := lc })
    (n ≠ 0 → exec (.doNAbs n last) s = entered 2 last (0b01#2 ++ n)
        ∧ exec (.doNRel n last) s = entered 2 (s.pc + last) (0b01#2 ++ n))
      ∧ (m ≠ 0 → exec (.doDAbs d last) s = entered 1 last (0b01#2 ++ m)
        ∧ exec (.doDRel d last) s = entered 1 (s.pc + last) (0b01#2 ++ m))
      ∧ exec (.doforAbs last) s = entered 1 last 0x8000
      ∧ exec (.doforRel last) s = entered 1 (s.pc + last) 0x8000
      ∧ (n = 0 → exec (.doNAbs n last) s = .refused .loopCountZero
        ∧ exec (.doNRel n last) s = .refused .loopCountZero)
      ∧ (m = 0 → exec (.doDAbs d last) s = .refused .loopCountZero
        ∧ exec (.doDRel d last) s = .refused .loopCountZero)

/-- R300, R487: ENDDO leaves the innermost loop for the address behind its last instruction, which it
finds with the length of the word at LA, or with either length where LA is outside the program memory
(the model's choice, log 31). STOP clears RUN and sets STP, PC becomes the address behind it and all other
architectural state stays (R552), also where STOP is the last instruction of an active loop; that R9's
end-of-loop step is not made there is the model's reading (log 47). -/
def Obligations.EnddoAndStop : Prop :=
  ∀ s : State, s.delay = none →
    let left : Half → Outcome := fun len => .next { s with
        pc := s.la + len, draws := s.draws + 1
        sp := s.sp - 1, cp := s.cp - 1
        la := s.csl[(s.cp - 1).toNat]'(s.cp - 1).isLt
        lc := s.csh[(s.cp - 1).toNat]'(s.cp - 1).isLt }
    let stopped := s.dcsr &&& 0xBFFF#16 ||| 0x0008#16
    (s.la.toNat < s.launch.pramWords → exec .enddo s = left (lengthOf s.launch (s.fetch s.la)))
      ∧ (s.launch.pramWords ≤ s.la.toNat → ∃ len ∈ [1#16, 2#16], exec .enddo s = left len)
      ∧ exec .stop s = .next { s with dcsr := stopped, pc := s.pc + 1, draws := s.draws + 1 }

/-- R262, R298 to R300, R355, R480: RTS after a call comes back behind the call with the stack pointer
where it was, and a loop that any form of DO or DOFOR opens and ENDDO leaves gives back LA, LC, CP and
SP; for every stack pointer, since the stacks wrap (U11). -/
def Obligations.NestingRestores : Prop :=
  (∀ (tg : Target) (s : State), s.delay = none →
      ∀ call ∈ [Instr.bs 15 tg, .js 15 tg],
        ∃ t u, exec call s = .next t ∧ exec (.rts 15) t = .next u ∧ u.pc = s.pc + 1 ∧ u.sp = s.sp)
    ∧ ∀ (n : BitVec 14) (d : RegNo) (last : Half) (s : State), s.delay = none →
      let restores : Instr → Half → Prop := fun loop la => s.pc ≠ la →
        ∃ t u, exec loop s = .next t ∧ t.la = la ∧ t.loopActive = true ∧ exec .enddo t = .next u
          ∧ u.la = s.la ∧ u.lc = s.lc ∧ u.cp = s.cp ∧ u.sp = s.sp
      (n ≠ 0 → restores (.doNAbs n last) last ∧ restores (.doNRel n last) (s.pc + last))
        ∧ ((s.r16 d).extractLsb' 0 14 ≠ 0 →
          restores (.doDAbs d last) last ∧ restores (.doDRel d last) (s.pc + last))
        ∧ restores (.doforAbs last) last ∧ restores (.doforRel last) (s.pc + last)

/-! ### Transfers -/

/-- R120, R413, R415, R418: transfers between data registers, of 16 or of 32 bits: MOVE, and what the
transfer beside an operation writes in the formats 5, 8b (here with no Y transfer) and, under the
condition, 8c; and what an immediate writes to a data register in format 7. No MOVE under a false
condition writes anything, not even an address register, or stops. -/
def Obligations.RegisterMoves : Prop :=
  ∀ (cc : Cond) (s : State),
    let taken := cc == 15 || Config.cond cc s.ccr
    let done : Effect → Outcome := fun e => .next (advance 1 .fallthrough (commit s e))
    let idle1 : Outcome := .next (advance 1 .fallthrough s)
    let pair := fun rs rd : RegNo => [(rd, s.r16 rs), (rd + 1, s.r16 (rs + 1))]
    (∀ rs rd, exec (.move (.rr cc ⟨rs, rd, false⟩)) s
          = (if taken then done { regs := [(rd, s.r16 rs)] } else idle1)
        ∧ exec (.move (.rr cc ⟨rs, rd, true⟩)) s
          = (if taken then done { regs := pair rs rd } else idle1))
      ∧ (∀ x, exec (.move (.rc cc x)) s = if taken then exec (.move (.rc 15 x)) s else idle1)
      ∧ (∀ x, exec (.move (.mem cc x)) s = if taken then exec (.move (.mem 15 x)) s else idle1)
      ∧ (∀ r a u de imm, exec (.move (.memImm cc r a u de imm)) s
        = if taken then exec (.move (.memImm 15 r a u de imm)) s
          else .next (advance 2 .fallthrough s))
      -- beside an operation
      ∧ ∀ (s1 : Opnd) (s2 d : RegNo) (slot : SlotPos) (m : Bool),
        (∀ rs rd, beside s (.f5 s1 d ⟨rs, rd, false⟩) = .next { regs := [(rd, s.r16 rs)] }
            ∧ beside s (.f5 s1 d ⟨rs, rd, true⟩) = .next { regs := pair rs rd }
            ∧ beside s (.f8 slot m s1 s2 d (.b 0 ⟨rs, rd, false⟩)) = .next { regs := [(rd, s.r16 rs)] }
            ∧ beside s (.f8 slot m s1 s2 d (.b 0 ⟨rs, rd, true⟩)) = .next { regs := pair rs rd })
          ∧ (∀ rs rd : BitVec 4, beside s (.f8 slot m s1 s2 d (.c cc rs rd))
            = .next (if taken then { regs := pair (rs ++ 0#1) (rd ++ 0#1) } else {}))
          ∧ ∀ (r rd : RegNo) (imm : Long),
            beside s (.f7 cc r d ⟨rd, false, false, imm⟩)
                = .next (if taken then { regs := [(rd, imm.extractLsb' 0 16)] } else {})
              ∧ beside s (.f7 cc r d ⟨rd, true, false, imm⟩)
                = .next (if taken then { regs := write32 rd imm } else {})

/-- R36, R414, R415, R419: transfers with a control register `c = rc(sc, idx)`, of 16 bits or, with an
accumulator, of 32 bits and an even data register: MOVE, MOVE #16, and what the transfer beside an
operation writes in the formats 6, 8d and, an immediate under the condition, 7. `sc` = 0 names A, M and
AT, `sc` = 1 the others. A control register is written at its width
(`Obligations.ControlRegisterWrites`). SS, CSL and CSH read as the entry at SP or CP, and PC as the
address of the instruction: the model's reading of R36 (log 25). -/
def Obligations.ControlRegisterMoves : Prop :=
  ∀ (r : RegNo) (idx : BitVec 5) (c : CReg) (imm : Half) (s : State),
    let done : Effect → Outcome := fun e => .next (advance 1 .fallthrough (commit s e))
    (∀ sc, s.rcAt sc idx = some c →
        let load : Effect :=
          { regs := if isLongReg c then write32 r (s.readCReg c)
                    else [(r, (s.readCReg c).extractLsb' 0 16)] }
        let store : Effect := { ctrl := [(c, if isLongReg c then s.r32 r else 0#16 ++ s.r16 r)] }
        (isLongReg c = true → isEven r = true) →
          exec (.move (.rc 15 ⟨r, sc, idx, true⟩)) s = done load
            ∧ (∀ s1 d, beside s (.f6 s1 d ⟨r, sc, idx, true⟩) = .next load)
            ∧ (∀ slot m s1 s2 d, beside s (.f8 slot m s1 s2 d (.d ⟨r, sc, idx, true⟩)) = .next load)
            ∧ (isProtected c = false →
              exec (.move (.rc 15 ⟨r, sc, idx, false⟩)) s = done store
                ∧ (∀ s1 d, beside s (.f6 s1 d ⟨r, sc, idx, false⟩) = .next store)
                ∧ ∀ slot m s1 s2 d,
                  beside s (.f8 slot m s1 s2 d (.d ⟨r, sc, idx, false⟩)) = .next store))
      ∧ (s.rcAt false idx = some c →
        (match c with
          | .a _ | .m _ | .atReg => True
          | _ => False)
          ∧ exec (.move16Agu idx imm) s = done { ctrl := [(c, 0#16 ++ imm)] })
      ∧ (s.rcAt true idx = some c →
        (match c with
          | .a _ | .m _ | .atReg => False
          | _ => True)
          ∧ (isProtected c = false →
            exec (.move16Pcu idx imm) s = done { ctrl := [(c, 0#16 ++ imm)] }))
      ∧ (∀ sc, s.rcAt sc idx = some c → isProtected c = false → ∀ cc s1 d (v : Long),
        beside s (.f7 cc s1 d ⟨idx, sc, true, v⟩)
          = .next (if cc == 15 || Config.cond cc s.ccr then { ctrl := [(c, v)] } else {}))
      ∧ s.readCReg .pc = 0#16 ++ s.pc
      ∧ s.readCReg .ss = 0#16 ++ s.ss[s.sp.toNat]'s.sp.isLt
      ∧ s.readCReg .csl = 0#16 ++ s.csl[s.cp.toNat]'s.cp.isLt
      ∧ s.readCReg .csh = 0#16 ++ s.csh[s.cp.toNat]'s.cp.isLt

/-- U2, U17, U22: what a transfer with a control register refuses, in MOVE, in MOVE #16 and beside an
operation (formats 6, 8d, and 7 under a true condition): a number without a register, a destination PC,
DCSR, SS, CSL or CSH, and an odd register beside an accumulator. -/
def Obligations.RefusedControlTransfers : Prop :=
  ∀ (r d : RegNo) (s1 : Opnd) (sc : Bool) (idx : BitVec 5) (de : Bool) (imm : Half) (v : Long)
    (s : State),
    let all : Bool → Refusal → Prop := fun de why =>
      exec (.move (.rc 15 ⟨r, sc, idx, de⟩)) s = .refused why
        ∧ beside s (.f6 s1 d ⟨r, sc, idx, de⟩) = .refused why
        ∧ frameTransfer s (.d ⟨r, sc, idx, de⟩) = .refused why
    let immediates : Refusal → Prop := fun why =>
      beside s (.f7 15 r d ⟨idx, sc, true, v⟩) = .refused why
        ∧ (sc = false → exec (.move16Agu idx imm) s = .refused why)
        ∧ (sc = true → exec (.move16Pcu idx imm) s = .refused why)
    (s.rcAt sc idx = none → all de .rcUnassigned ∧ immediates .rcUnassigned)
      ∧ (∀ c ∈ [CReg.pc, .dcsr, .ss, .csl, .csh], s.rcAt sc idx = some c →
        all false (.protectedDestination c) ∧ immediates (.protectedDestination c))
      ∧ ∀ c ∈ [CReg.ac0, .ac1], s.rcAt sc idx = some c → r.getLsbD 0 = true → all de .oddRegister

/-- R72, R73, R75: the addresses of the modes of R72's assumptions (3), (4) and (5): base plus
immediate, the base, the base with post-increment by one, and AT for the Y transfer. That the first two
hold for every `u` is the model's choice (log 12); the step of one and the unchanged `An` are what R72
itself marks as general knowledge (log 49). -/
def Obligations.AddressModes : Prop :=
  ∀ (n : BitVec 3) (u : Bool) (imm : Half) (s : State), s.launch.ok = true →
    let base := s.a[n.toNat]'n.isLt
    s.aguX n s.launch.modeImm u imm = (base + imm, [])
      ∧ s.aguX n s.launch.modeInd u imm = (base, [])
      ∧ (s.m[n.toNat]'n.isLt = s.launch.neutralM →
        s.aguX n s.launch.modeInc s.launch.neutralU imm = (base, [(.a n, 0#16 ++ (base + 1))]))
      ∧ s.aguY s.launch.atInd = (s.atReg, [])

/-- R74, R75, R411, R412, R418: the transfers with data memory: MOVE, and beside an operation in the
formats 4 and 8a. A load writes `RL[2 * r]`, a store writes the word at the address, and both make the
address generator's writes; an address outside both regions leaves the core stuck (R79). In MODE_IMM
the immediate of the second word is added to the base. The Y transfer of 8a and 8b loads `RL[0]` from
the region YRAM and makes its own address writes, outside YRAM the core is stuck, and the field 00 is no
transfer; what a frame writes is what its two transfers write together, and of two that are stuck the
first names the address (log 50). -/
def Obligations.MemoryMoves : Prop :=
  ∀ (r : BitVec 4) (a mode : BitVec 3) (u : Bool) (imm : Half) (s : State),
    let write : Half → BitVec 3 → Bool → Effect := fun off md de =>
      let g := s.aguX a md u off
      if de then { regs := write32 (r ++ 0#1) (s.data g.1), ctrl := g.2 }
      else { ctrl := g.2, mem := some (g.1, s.r32 (r ++ 0#1)) }
    let check : Half → MoveForm → Half → BitVec 3 → Bool → Prop := fun len move off md de =>
      let g := s.aguX a md u off
      exec (.move move) s =
        if s.inX g.1 then .next (advance len .fallthrough (commit s (write off md de)))
        else .fault (.dataOutside g.1)
    let gx := s.aguX a mode u 0
    (∀ de, check 1 (.mem 15 ⟨r, a, mode, u, de⟩) 0 mode de
        ∧ check 2 (.memImm 15 r a u de imm) imm s.launch.modeImm de
        ∧ ∀ (s1 : Opnd) (d : RegNo), beside s (.f4 s1 d ⟨r, a, mode, u, de⟩) =
          if s.inX gx.1 then .next (write 0 mode de) else .fault (.dataOutside gx.1))
      -- the frames 8a and 8b
      ∧ ∀ at2 : BitVec 2,
        let gy := s.aguY at2
        let load : Effect := { regs := write32 0 (s.data gy.1), ctrl := gy.2 }
        (∀ de, frameTransfer s (.a at2 ⟨r, a, mode, u, de⟩) =
            if s.inX gx.1 = false then .fault (.dataOutside gx.1)
            else if at2 = 0 then .next (write 0 mode de)
            else if s.inY gy.1 then .next ((write 0 mode de).and load)
            else .fault (.dataOutside gy.1))
          ∧ (∀ rs rd, frameTransfer s (.b at2 ⟨rs, rd, true⟩) =
            if at2 = 0 then .next { regs := write32 rd (s.r32 rs) }
            else if s.inY gy.1 then .next ({ regs := write32 rd (s.r32 rs) : Effect }.and load)
            else .fault (.dataOutside gy.1))
          ∧ (∀ rs rd, frameTransfer s (.b at2 ⟨rs, rd, false⟩) =
            if at2 = 0 then .next { regs := [(rd, s.r16 rs)] }
            else if s.inY gy.1 then .next ({ regs := [(rd, s.r16 rs)] : Effect }.and load)
            else .fault (.dataOutside gy.1))
          ∧ ∀ slot m s1 s2 d x y,
            beside s (.f8 slot m s1 s2 d (.a at2 x)) = frameTransfer s (.a at2 x)
              ∧ beside s (.f8 slot m s1 s2 d (.b at2 y)) = frameTransfer s (.b at2 y)

/-- R74: a stored word is read back, by either transfer, and every byte outside the four bytes of the
stored word reads as before; an instruction that does not store leaves data memory as it is. The
address is the one the meaning computes (`storeAddress`). -/
def Obligations.MemoryFrame : Prop :=
  (∀ (i : Instr) (s t : State), exec i s = .next t →
      (storeAddress s i = none → t.dmem = s.dmem)
        ∧ ∀ a, storeAddress s i = some a → ∀ k : Nat,
          k < 4 * a.toNat ∨ 4 * a.toNat + 4 ≤ k → t.dmem.readByte k = s.dmem.readByte k)
    ∧ ∀ (s : State) (e : Effect) (a : Half) (v : Long), s.wf = true → e.mem = some (a, v) →
      (commit s e).data a = v

/-! ### How the writes land -/

/-- R21, R22, R133: a register that one value is written to holds it, a pair and a quadruple of registers
hold the 32 and 64 bits, and a register that nothing is written to stays. -/
def Obligations.RegisterWrites : Prop :=
  (∀ (s : State) (e : Effect) (n : RegNo),
      (∀ v, e.regVals n = [v] → (commit s e).r16 n = v)
        ∧ (n ∉ e.regs.map Prod.fst → (commit s e).r16 n = s.r16 n))
    ∧ ∀ (s : State) (e : Effect) (n : RegNo) (v : Long) (w : Dbl),
      (e.regs = write32 n v → (commit s e).r32 n = v)
        ∧ (e.regs = write64 n w → (commit s e).r64 n = w)

/-- R36: a control register that a transfer writes takes the low bits of the value, as many as it has;
every other one stays, CCR's flags apart. Truncation for SP and CP is the model's choice
(log 26). -/
def Obligations.ControlRegisterWrites : Prop :=
  ∀ (s : State) (c : CReg) (v : Long), isProtected c = false →
    let t := commit s { ctrl := [(c, v)] }
    t.readCReg c = (match c with
        | .ac0 | .ac1 => v
        | .sp => 0#28 ++ v.extractLsb' 0 4
        | .cp => 0#29 ++ v.extractLsb' 0 3
        | _ => 0#16 ++ v.extractLsb' 0 16)
      ∧ (∀ d, d ≠ c → (d = .ss → c ≠ .sp) → (d = .csl ∨ d = .csh → c ≠ .cp) →
        t.readCReg d = s.readCReg d)
      ∧ t.regs = s.regs ∧ t.dmem = s.dmem ∧ t.ss = s.ss ∧ t.csl = s.csl ∧ t.csh = s.csh

/-- R45: an operation writes the flags it gives a value and no other bit of CCR. -/
def Obligations.FlagWrites : Prop :=
  ∀ (s : State) (e : Effect) (fl : FlagUpd), e.flags = [fl] → e.ctrlVals .ccr = [] →
    let t := commit s e
    t.flagC = fl.c.getD s.flagC ∧ t.flagV = fl.v.getD s.flagV ∧ t.flagZ = fl.z.getD s.flagZ
      ∧ t.flagN = fl.n.getD s.flagN ∧ t.flagU = fl.u.getD s.flagU ∧ t.flagE = fl.e.getD s.flagE
      ∧ ∀ i : Nat, i ∉ [0, 1, 2, 3, 4, 6] → t.ccr.getLsbD i = s.ccr.getLsbD i

/-- R46, U3, U18: where several parts of one instruction write one location it takes one of the values
written: a register, an accumulator as one location of 32 bits (the model's choice, log 21, for U18
speaks of 16-bit registers and of flags), any other control register at its width (log 26), and each
flag, for which a transfer into CCR counts as one of the parts. Of E (CCR[6]) the last is the model's
reading (log 22): R46 speaks there of the five flags U, N, Z, V, C only. -/
def Obligations.CompetingWrites : Prop :=
  ∀ (s : State) (e : Effect),
    let t := commit s e
    let flag := fun (get : FlagUpd → Option Bool) (i : Nat) =>
      (∃ fl ∈ e.flags, get fl ≠ none) → (∃ fl ∈ e.flags, get fl = some (t.ccr.getLsbD i))
        ∨ ∃ v ∈ e.ctrlVals .ccr, v.getLsbD i = t.ccr.getLsbD i
    (∀ n, e.regVals n ≠ [] → t.r16 n ∈ e.regVals n)
      ∧ (e.ctrlVals .ac0 ≠ [] → t.ac0 ∈ e.ctrlVals .ac0)
      ∧ (e.ctrlVals .ac1 ≠ [] → t.ac1 ∈ e.ctrlVals .ac1)
      ∧ (∀ c, isProtected c = false → isLongReg c = false → c ≠ .ccr → e.ctrlVals c ≠ [] →
        t.readCReg c ∈ (e.ctrlVals c).map fun v =>
          match c with
          | .sp => 0#28 ++ v.extractLsb' 0 4
          | .cp => 0#29 ++ v.extractLsb' 0 3
          | _ => 0#16 ++ v.extractLsb' 0 16)
      ∧ flag (·.c) 0 ∧ flag (·.v) 1 ∧ flag (·.z) 2 ∧ flag (·.n) 3 ∧ flag (·.u) 4 ∧ flag (·.e) 6
      ∧ (e.ctrlVals .ccr ≠ [] → ∃ v ∈ e.ctrlVals .ccr,
        (e.flags = [] → t.ccr = v.extractLsb' 0 16)
          ∧ ∀ i : Nat, i < 16 → i ∉ [0, 1, 2, 3, 4, 6] → t.ccr.getLsbD i = v.getLsbD i)

/-- What an ALU instruction leaves as it is, in every form: each register that is neither a destination
of the operation nor one of the transfer beside it; each control register that the transfer does not
write, but for CCR, for the accumulators of the accumulating operations, and for PC and, behind the last
instruction of an active loop, LA, LC, SP and CP (`keepsBut`); the bits of CCR that are no flags; DCSR,
the stacks' entries and program memory; and data memory, unless the transfer stores. -/
def Obligations.AluFrame : Prop :=
  ∀ (i : Instr) (op : Op) (f : Form) (s t : State) (ex : Effect), partsOf i = some (op, f) →
    beside s f = .next ex → exec i s = .next t →
    let transferred := ex.ctrl.map Prod.fst
    let accumulators := if writesAccumulators op then [CReg.ac0, .ac1] else []
    (∀ n, n ∉ destinations s op f.binding → n ∉ ex.regs.map Prod.fst → t.r16 n = s.r16 n)
      ∧ keepsBut (.ccr :: (accumulators ++ transferred)) s t
      ∧ (CReg.ccr ∉ transferred →
        ∀ k : Nat, k ∉ [0, 1, 2, 3, 4, 6] → t.ccr.getLsbD k = s.ccr.getLsbD k)
      ∧ (formStore s f = none → t.dmem = s.dmem)

/-- What a MOVE leaves as it is, whether its condition holds or not: every data register but its
destination; every control register but its destination and those the address generator writes, which
are none in the modes `(An+#16)` and `(An)` (for every `u`: the model's choice, log 12) and otherwise
among the named A register, AT and the M registers (R72); CCR, the accumulators, DCSR, the entries of the stacks, program memory and, but for
the stored word, data memory (`keepsBut`). -/
def Obligations.MoveFrame : Prop :=
  ∀ (cc : Cond) (s t : State),
    let keepsMemory := fun (x : XferX) (imm : Half) => match storeOf s imm x with
      | none => t.dmem = s.dmem
      | some w => ∀ k : Nat, k < 4 * w.toNat ∨ 4 * w.toNat + 4 ≤ k →
        t.dmem.readByte k = s.dmem.readByte k
    let memory := fun (x : XferX) (imm : Half) =>
      (∀ n, x.de = false ∨ (n ≠ x.r ++ 0#1 ∧ n ≠ x.r ++ 1#1) → t.r16 n = s.r16 n)
        ∧ keepsBut ((s.aguX x.a x.mode x.u imm).2.map Prod.fst) s t ∧ keepsMemory x imm
    (∀ x : XferRR, exec (.move (.rr cc x)) s = .next t →
        (∀ n, n ≠ x.rd → (x.l = true → n ≠ x.rd + 1) → t.r16 n = s.r16 n) ∧ keepsBut [] s t
          ∧ t.dmem = s.dmem)
      ∧ (∀ x : XferRC, exec (.move (.rc cc x)) s = .next t →
        (∀ n, x.de = false ∨ (n ≠ x.r ∧ ((s.rcAt x.sc x.rc).any isLongReg = true → n ≠ x.r + 1)) →
          t.r16 n = s.r16 n)
          ∧ keepsBut (if x.de then [] else (s.rcAt x.sc x.rc).toList) s t ∧ t.dmem = s.dmem)
      ∧ (∀ x : XferX, exec (.move (.mem cc x)) s = .next t → memory x 0)
      ∧ (∀ r a u de imm, exec (.move (.memImm cc r a u de imm)) s = .next t →
        memory ⟨r, a, s.launch.modeImm, u, de⟩ imm)
      ∧ (∀ (idx : BitVec 5) (imm : Half),
        (exec (.move16Agu idx imm) s = .next t →
            t.regs = s.regs ∧ keepsBut (s.rcAt false idx).toList s t ∧ t.dmem = s.dmem)
          ∧ (exec (.move16Pcu idx imm) s = .next t →
            t.regs = s.regs ∧ keepsBut (s.rcAt true idx).toList s t ∧ t.dmem = s.dmem))
      ∧ ∀ (n mode : BitVec 3) (u : Bool) (imm : Half),
        let written := (s.aguX n mode u imm).2.map Prod.fst
        (mode = s.launch.modeImm ∨ mode = s.launch.modeInd → written = [])
          ∧ ∀ c ∈ written, c = .a n ∨ c = .atReg ∨ ∃ k, c = .m k

/-! ### Two operations in one instruction -/

/-- R115, R116, R120, R124, R133: the pairs of operations: both operations and the transfers read the
state before the instruction, and their writes land together; in 8c OP2 and the transfer stand under
the condition. -/
def Obligations.PairsOfOperations : Prop :=
  ∀ (i1 : Slot1) (i2 : Slot2) (s : State) (e1 e2 ex : Effect), part1 s i1 = .next e1 →
    part2 s i2 = .next e2 →
    let done : Effect → Outcome := fun e => .next (advance 2 .fallthrough (commit s e))
    (∀ at2 x, frameStop s i1.op i2.op (.a at2 x) = none → frameTransfer s (.a at2 x) = .next ex →
        exec (.frame8a i1 i2 at2 x) s = done (e1.and (e2.and ex)))
      ∧ (∀ at2 x, frameStop s i1.op i2.op (.b at2 x) = none → frameTransfer s (.b at2 x) = .next ex →
        exec (.frame8b i1 i2 at2 x) s = done (e1.and (e2.and ex)))
      ∧ (∀ cc rs rd, frameStop s i1.op i2.op (.c cc rs rd) = none →
        exec (.frame8c i1 i2 cc rs rd) s = done (e1.and
          (if cc == 15 || Config.cond cc s.ccr then
            e2.and { regs := write32 (rd ++ 0#1) (s.r32 (rs ++ 0#1)) } else {})))
      ∧ (∀ x, frameStop s i1.op i2.op (.d x) = none → frameTransfer s (.d x) = .next ex →
        exec (.frame8d i1 i2 x) s = done (e1.and (e2.and ex)))

/-- R124, R130: an operation in a slot of format 8 writes what it writes alone with the same operands,
so the statements about single operations say what each part of a pair writes. -/
def Obligations.SlotWritesAsAlone : Prop :=
  ∀ (s : State) (fr : Frame) (e ex : Effect), frameTransfer s fr = .next ex →
    (∀ i : Slot1, i.op ≠ .nop → part1 s i = .next e →
        let f := Form.f8 .op1 i.m (.reg i.s1) i.s2 i.d fr
        formStop s i.op f = none →
        exec (instrOf i.op f) s = .next (after s f e (if transferHolds s f then ex else {})))
      ∧ (∀ i : Slot2, i.op ≠ .nop → part2 s i = .next e →
        let f := Form.f8 .op2 false i.s3 i.s4 i.d2 fr
        formStop s i.op f = none →
        exec (instrOf i.op f) s = .next (after s f e (if transferHolds s f then ex else {})))

/-- R555, U2, U6, U7, U9: the combinations a program may not use, alone in format 8 and in each of the
frames 8a to 8d with any second operation: INSL beside ASRLE, INSL beside a data register as the source
of a transfer, a Y transfer beside ADDSUB, ADDSUBL, ADDSUBX or CVFE while DD = 0; and ADDSUB, ADDSUBL or
ADDSUBX in a two-address format while DD = 1, or ADDSUB then with an odd destination (in format 1
under its condition; log 36). -/
def Obligations.RefusedCombinations : Prop :=
  ∀ (cc : Cond) (m : Bool) (s1 : Opnd) (s2 d : RegNo) (i1 : Slot1) (i2 : Slot2) (s : State),
    let wide := [Op.addsub, .addsubl, .addsubx]
    (∀ fr, i1.op = .insl → i2.op = .asrle →
        exec (frameInstr i1 i2 fr) s = .refused .asrleWithInsl)
      ∧ (∀ fr, readsRegister fr = true →
        exec (.insl (.f8 .op1 m s1 s2 d fr)) s = .refused .inslWithRegisterSource
          ∧ (i1.op = .insl → i2.op ≠ .asrle →
            exec (frameInstr i1 i2 fr) s = .refused .inslWithRegisterSource))
      ∧ (∀ fr, usesY fr = true → s.dd = false → ∀ op ∈ Op.cvfe :: wide,
        exec (instrOf op (.f8 .op1 m s1 s2 d fr)) s = .refused .yTransferWithDD0
          ∧ (i1.op = op → exec (frameInstr i1 i2 fr) s = .refused .yTransferWithDD0))
      ∧ (∀ x y z, s.dd = true → ∀ op ∈ wide,
        exec (instrOf op (.f4 s1 d x)) s = .refused .twoAddressDD1
          ∧ exec (instrOf op (.f5 s1 d y)) s = .refused .twoAddressDD1
          ∧ exec (instrOf op (.f6 s1 d z)) s = .refused .twoAddressDD1)
      ∧ (s.dd = true → d.getLsbD 0 = true →
        exec (.addsub (.f1 cc s1 s2 d)) s
            = (if cc == 15 || Config.cond cc s.ccr then .refused .oddRegister
              else .next (advance 1 .fallthrough s))
          ∧ ∀ fr, exec (.addsub (.f8 .op1 m s1 s2 d fr)) s = .refused .oddRegister)
      ∧ (s.dd = true → i1.op = .addsub → i1.d.getLsbD 0 = true →
        ∀ fr, exec (frameInstr i1 i2 fr) s = .refused .oddRegister)
end

