-- ==== Sys2Proof/Laws/Flags.lean ====
section
/-! SUPPORT. The flag computations of the model are the flags in the words of the rules
(spec/10_state.md R40 to R44). -/

namespace Sys2Proof.Machine

/-- U as the rule words it. -/
theorem unnorm_eq {n : Nat} (r : BitVec n) (h : 2 ≤ n) : unnorm r = notNormal r := by
  unfold unnorm notNormal
  rw [BitVec.msb_eq_getLsbD_last, BitVec.getMsbD, BitVec.getMsbD]
  have h0 : 0 < n := by omega
  have h1 : 1 < n := by omega
  simp [h0, h1, show n - 1 - 1 = n - 2 by omega]

/-- N as the rule words it. -/
theorem msb_eq {n : Nat} (r : BitVec n) : r.msb = r.getMsbD 0 := rfl

/-- Z as the rule words it. -/
theorem zero_eq {n : Nat} (r : BitVec n) : (r == 0#n) = decide (r.toNat = 0) := by
  rw [Bool.eq_iff_iff]
  simp only [beq_iff_eq, decide_eq_true_eq]
  constructor
  · intro h; simp [h]
  · intro h; apply BitVec.eq_of_toNat_eq; simpa using h

/-- V as the rule words it: the narrowed result is not the exact one. -/
theorem overflows_eq (n : Nat) (x : Int) (h : 1 ≤ n) :
    overflows n x = lost x (BitVec.ofInt n x) := by
  obtain ⟨m, rfl⟩ : ∃ m, n = m + 1 := ⟨n - 1, by omega⟩
  have hp : (0 : Int) < 2 ^ m := by positivity
  have hd : (2 : Int) ^ (m + 1) = 2 * 2 ^ m := by ring
  unfold overflows lost
  rw [Bool.eq_iff_iff, BitVec.toInt_ofInt, Int.bmod_def]
  simp only [Bool.or_eq_true, decide_eq_true_eq, Nat.add_sub_cancel]
  push_cast
  rw [hd]
  generalize (2 : Int) ^ m = p at hp
  have hm0 : 0 ≤ x % (2 * p) := Int.emod_nonneg _ (by omega)
  have hm1 : x % (2 * p) < 2 * p := Int.emod_lt_of_pos _ (by omega)
  have hq := Int.mul_ediv_add_emod x (2 * p)
  generalize x % (2 * p) = r at *
  generalize x / (2 * p) = q at *
  have hhalf : (2 * p + 1) / 2 = p := by omega
  rw [hhalf]
  split
  · constructor
    · rintro (h | h) e <;> omega
    · intro hne
      by_contra hc
      have hq0 : q = 0 := by
        have h1 : -1 < q := by
          by_contra hq1
          have : 2 * p * q ≤ 2 * p * (-1) := by
            apply mul_le_mul_of_nonneg_left <;> omega
          omega
        have h2 : q < 1 := by
          by_contra hq1
          have : 2 * p * 1 ≤ 2 * p * q := by
            apply mul_le_mul_of_nonneg_left <;> omega
          omega
        omega
      subst hq0
      omega
  · constructor
    · rintro (h | h) e <;> omega
    · intro hne
      by_contra hc
      have hq0 : q = -1 := by
        have h1 : -2 < q := by
          by_contra hq1
          have : 2 * p * q ≤ 2 * p * (-2) := by
            apply mul_le_mul_of_nonneg_left <;> omega
          omega
        have h2 : q < 0 := by
          by_contra hq1
          have : 2 * p * 0 ≤ 2 * p * q := by
            apply mul_le_mul_of_nonneg_left <;> omega
          omega
        omega
      subst hq0
      omega

/-- C as the rule words it: bit `n` of the sum of the zero-extended operands. -/
theorem addCarry_eq {n : Nat} (a b : BitVec n) (cin : Bool) :
    addCarry a b cin = carryOut a b cin := by
  have ha := a.isLt
  have hb := b.isLt
  have hp : 0 < 2 ^ n := Nat.two_pow_pos n
  have hd : 2 ^ (n + 1) = 2 * 2 ^ n := by ring
  have hc : cin.toNat ≤ 1 := Bool.toNat_le cin
  unfold addCarry carryOut
  rw [BitVec.getLsbD, Nat.testBit_eq_decide_div_mod_eq]
  have e : (a.setWidth (n + 1) + b.setWidth (n + 1) + (BitVec.ofBool cin).setWidth (n + 1)).toNat
      = a.toNat + b.toNat + cin.toNat := by
    have h1 : a.toNat % 2 ^ (n + 1) = a.toNat := Nat.mod_eq_of_lt (by omega)
    have h2 : b.toNat % 2 ^ (n + 1) = b.toNat := Nat.mod_eq_of_lt (by omega)
    have h3 : cin.toNat % 2 ^ (n + 1) = cin.toNat := Nat.mod_eq_of_lt (by omega)
    simp only [BitVec.toNat_add, BitVec.toNat_setWidth, BitVec.toNat_ofBool, h1, h2, h3]
    rw [Nat.mod_eq_of_lt (a := a.toNat + b.toNat) (by omega), Nat.mod_eq_of_lt (by omega)]
  rw [e, Bool.eq_iff_iff]
  simp only [decide_eq_true_eq]
  generalize a.toNat + b.toNat + cin.toNat = x at *
  constructor
  · intro h
    have : x / 2 ^ n = 1 := Nat.div_eq_of_lt_le (by omega) (by omega)
    omega
  · intro h
    by_contra hlt
    rw [Nat.div_eq_of_lt (by omega)] at h
    omega

/-- U, N, Z, V and C of a result as the rules word them. -/
theorem flagsVC_eq {n : Nat} (r : BitVec n) (v c : Option Bool) (h : 2 ≤ n) :
    flagsVC r v c = resultFlags r v c := by
  simp [flagsVC, flagsUNZ, resultFlags, unnorm_eq r h, zero_eq, msb_eq]

end Sys2Proof.Machine
end

