-- ==== Sys2Proof/Laws/Memory.lean ====
section
/-! SUPPORT. The laws of a memory in canonical form: every operation keeps the form, a write is read
back, and every other address reads as before. -/

namespace Sys2Proof.Machine

/-- The canonical form of a list with a first entry. -/
theorem wfFrom_cons (low : Option Nat) (k : Nat) (v : Byte) (rest : Memory) :
    Memory.wfFrom low ((k, v) :: rest) = true ↔
      (∀ l, low = some l → l < k) ∧ v ≠ Memory.background ∧ Memory.wfFrom (some k) rest = true := by
  cases low <;> simp [Memory.wfFrom, and_assoc]

/-- A memory in canonical form above `low` lists nothing at or below `low`. -/
theorem readByte_low (mem : Memory) (low a : Nat) (h : Memory.wfFrom (some low) mem = true)
    (ha : a ≤ low) : Memory.readByte a mem = Memory.background := by
  induction mem generalizing low with
  | nil => rfl
  | cons p rest ih =>
    obtain ⟨k, v⟩ := p
    obtain ⟨hl, -, hr⟩ := (wfFrom_cons ..).1 h
    have hk := hl low rfl
    have hne : a ≠ k := by omega
    simp only [Memory.readByte, hne, if_false]
    exact ih k hr (by omega)

/-- A canonical form above a bound is one above every smaller bound. -/
theorem wfFrom_weaken (mem : Memory) (l : Nat) (low : Option Nat)
    (h : Memory.wfFrom (some l) mem = true) (hl : ∀ l', low = some l' → l' ≤ l) :
    Memory.wfFrom low mem = true := by
  cases mem with
  | nil => rfl
  | cons p rest =>
    obtain ⟨k, v⟩ := p
    obtain ⟨hk, hv, hr⟩ := (wfFrom_cons ..).1 h
    exact (wfFrom_cons ..).2 ⟨fun l' e => Nat.lt_of_le_of_lt (hl l' e) (hk l rfl), hv, hr⟩

/-- Replacing a byte above the bound keeps the canonical form above it. -/
theorem wfFrom_writeByte (mem : Memory) (low : Option Nat) (a : Nat) (v : Byte)
    (h : Memory.wfFrom low mem = true) (ha : ∀ l, low = some l → l < a) :
    Memory.wfFrom low (Memory.writeByte a v mem) = true := by
  induction mem generalizing low with
  | nil =>
    simp only [Memory.writeByte, Memory.entry]
    split
    · rfl
    · rename_i hv
      exact (wfFrom_cons ..).2 ⟨ha, hv, rfl⟩
  | cons p rest ih =>
    obtain ⟨k, w⟩ := p
    obtain ⟨hk, hw, hr⟩ := (wfFrom_cons ..).1 h
    simp only [Memory.writeByte, Memory.entry]
    split
    · rename_i hak
      split
      · exact h
      · rename_i hv
        exact (wfFrom_cons ..).2 ⟨ha, hv, (wfFrom_cons ..).2 ⟨fun l e => by cases e; exact hak, hw, hr⟩⟩
    · split
      · rename_i hak
        subst hak
        split
        · exact wfFrom_weaken rest a low hr fun l e => Nat.le_of_lt (ha l e)
        · rename_i hv
          exact (wfFrom_cons ..).2 ⟨ha, hv, hr⟩
      · exact (wfFrom_cons ..).2 ⟨hk, hw, ih (some k) hr fun l e => by cases e; omega⟩

/-- Replacing a byte keeps the canonical form. -/
theorem wf_writeByte (mem : Memory) (a : Nat) (v : Byte) (h : mem.wf = true) :
    Memory.wf (mem.writeByte a v) = true :=
  wfFrom_writeByte mem none a v h (by simp)

/-- A byte at another address reads as before. -/
theorem readByte_writeByte_other (mem : Memory) (a b : Nat) (v : Byte) (h : b ≠ a) :
    Memory.readByte b (Memory.writeByte a v mem) = Memory.readByte b mem := by
  induction mem with
  | nil => simp only [Memory.writeByte, Memory.entry]; split <;> simp [Memory.readByte, h]
  | cons p rest ih =>
    obtain ⟨k, w⟩ := p
    simp only [Memory.writeByte, Memory.entry]
    split
    · split <;> simp [Memory.readByte, h]
    · split
      · rename_i hk
        subst hk
        split <;> simp [Memory.readByte, h]
      · simp [Memory.readByte, ih]

/-- A byte written to a canonical memory is read back. -/
theorem readByte_writeByte_same (mem : Memory) (low : Option Nat) (a : Nat) (v : Byte)
    (h : Memory.wfFrom low mem = true) :
    Memory.readByte a (Memory.writeByte a v mem) = v := by
  induction mem generalizing low with
  | nil =>
    simp only [Memory.writeByte, Memory.entry]
    split
    · rename_i hv; simp [Memory.readByte, hv]
    · simp [Memory.readByte]
  | cons p rest ih =>
    obtain ⟨k, w⟩ := p
    obtain ⟨-, -, hr⟩ := (wfFrom_cons ..).1 h
    simp only [Memory.writeByte, Memory.entry]
    split
    · rename_i hak
      split
      · rename_i hv
        have hne : a ≠ k := by omega
        simp only [Memory.readByte, hne, if_false, hv]
        exact readByte_low rest k a hr (by omega)
      · simp [Memory.readByte]
    · split
      · rename_i hk
        subst hk
        split
        · rename_i hv
          rw [hv]
          exact readByte_low rest a a hr (by omega)
        · simp [Memory.readByte]
      · rename_i hne
        simp only [Memory.readByte, hne, if_false]
        exact ih (some k) hr

/-- Replacing a word keeps the canonical form. -/
theorem wf_writeWord (mem : Memory) (w : Nat) (v : Long) (h : mem.wf = true) :
    (mem.writeWord w v).wf = true := by
  unfold Memory.writeWord
  exact wf_writeByte _ _ _ (wf_writeByte _ _ _ (wf_writeByte _ _ _ (wf_writeByte _ _ _ h)))

/-- A byte outside the four bytes of a written word reads as before. -/
theorem readByte_writeWord_other (mem : Memory) (w k : Nat) (v : Long)
    (h : k < 4 * w ∨ 4 * w + 4 ≤ k) : (mem.writeWord w v).readByte k = mem.readByte k := by
  unfold Memory.writeWord
  rw [readByte_writeByte_other _ _ _ _ (by omega), readByte_writeByte_other _ _ _ _ (by omega),
    readByte_writeByte_other _ _ _ _ (by omega), readByte_writeByte_other _ _ _ _ (by omega)]

/-- A word is its four bytes. -/
theorem bytes_of_word (v : Long) :
    v.extractLsb' 24 8 ++ v.extractLsb' 16 8 ++ v.extractLsb' 8 8 ++ v.extractLsb' 0 8 = v := by
  apply BitVec.eq_of_getLsbD_eq
  intro i hi
  simp only [BitVec.getLsbD_append, BitVec.getLsbD_extractLsb']
  by_cases h0 : i < 8
  · simp [h0]
  · by_cases h1 : i < 16
    · simp [h0, show i - 8 < 8 by omega, show 8 + (i - 8) = i by omega]
    · by_cases h2 : i < 24
      · simp [h0, show ¬ i - 8 < 8 by omega, show i - 8 - 8 < 8 by omega,
          show 16 + (i - 8 - 8) = i by omega]
      · simp [h0, show ¬ i - 8 < 8 by omega, show ¬ i - 8 - 8 < 8 by omega,
          show i - 8 - 8 - 8 < 8 by omega, show 24 + (i - 8 - 8 - 8) = i by omega]

/-- A word written to a canonical memory is read back. -/
theorem readWord_writeWord_same (mem : Memory) (w : Nat) (v : Long) (h : mem.wf = true) :
    (mem.writeWord w v).readWord w = v := by
  have h0 := wf_writeByte mem (4 * w) (v.extractLsb' 0 8) h
  have h1 := wf_writeByte _ (4 * w + 1) (v.extractLsb' 8 8) h0
  have h2 := wf_writeByte _ (4 * w + 2) (v.extractLsb' 16 8) h1
  unfold Memory.readWord Memory.writeWord
  rw [readByte_writeByte_same _ none _ _ h2]
  rw [readByte_writeByte_other _ _ (4 * w + 2) _ (by omega),
    readByte_writeByte_same _ none _ _ h1]
  rw [readByte_writeByte_other _ _ (4 * w + 1) _ (by omega),
    readByte_writeByte_other _ _ (4 * w + 1) _ (by omega),
    readByte_writeByte_same _ none _ _ h0]
  rw [readByte_writeByte_other _ _ (4 * w) _ (by omega),
    readByte_writeByte_other _ _ (4 * w) _ (by omega),
    readByte_writeByte_other _ _ (4 * w) _ (by omega), readByte_writeByte_same _ none _ _ h]
  exact bytes_of_word v

/-- A word at another address reads as before. -/
theorem readWord_writeWord_other (mem : Memory) (w x : Nat) (v : Long) (h : x ≠ w) :
    (mem.writeWord w v).readWord x = mem.readWord x := by
  unfold Memory.readWord
  rw [readByte_writeWord_other _ _ _ _ (by omega), readByte_writeWord_other _ _ _ _ (by omega),
    readByte_writeWord_other _ _ _ _ (by omega), readByte_writeWord_other _ _ _ _ (by omega)]

/-- The memories of the reset state are in canonical form. -/
theorem reset_memory_wf : State.reset.pmem.wf = true ∧ State.reset.dmem.wf = true := ⟨rfl, rfl⟩

/-- The writes of an instruction keep data memory in canonical form. -/
theorem commit_dmem_wf (s : State) (e : Effect) (h : s.dmem.wf = true) :
    (commit s e).dmem.wf = true := by
  unfold commit
  cases he : e.mem with
  | none => simpa [he] using h
  | some p => simpa [he] using wf_writeWord _ _ _ h

/-- Placing an instruction keeps program memory in canonical form. -/
theorem withFetchWord_pmem_wf (s : State) (nbits w : Nat) (h : s.pmem.wf = true) :
    (s.withFetchWord nbits w).pmem.wf = true :=
  wf_writeWord _ _ _ (wf_writeWord _ _ _ h)

end Sys2Proof.Machine
end

