-- ==== Sys2Proof/Laws/State.lean ====
section
/-! SUPPORT. What each named update of the state does to each field: one lemma per field, true by
definition. -/

namespace Sys2Proof.Machine

/-! ### Push on the system stack -/

@[simp] theorem State.pushSS_regs (s : State) (v : Half) : (s.pushSS v).regs = s.regs := rfl

@[simp] theorem State.pushSS_ac0 (s : State) (v : Half) : (s.pushSS v).ac0 = s.ac0 := rfl

@[simp] theorem State.pushSS_ac1 (s : State) (v : Half) : (s.pushSS v).ac1 = s.ac1 := rfl

@[simp] theorem State.pushSS_ccr (s : State) (v : Half) : (s.pushSS v).ccr = s.ccr := rfl

@[simp] theorem State.pushSS_sr (s : State) (v : Half) : (s.pushSS v).sr = s.sr := rfl

@[simp] theorem State.pushSS_dcsr (s : State) (v : Half) : (s.pushSS v).dcsr = s.dcsr := rfl

@[simp] theorem State.pushSS_pc (s : State) (v : Half) : (s.pushSS v).pc = s.pc := rfl

@[simp] theorem State.pushSS_ss (s : State) (v : Half) :
    (s.pushSS v).ss = s.ss.set s.sp.toNat v s.sp.isLt := rfl

@[simp] theorem State.pushSS_sp (s : State) (v : Half) : (s.pushSS v).sp = s.sp + 1 := rfl

@[simp] theorem State.pushSS_delay (s : State) (v : Half) : (s.pushSS v).delay = s.delay := rfl

@[simp] theorem State.pushSS_la (s : State) (v : Half) : (s.pushSS v).la = s.la := rfl

@[simp] theorem State.pushSS_lc (s : State) (v : Half) : (s.pushSS v).lc = s.lc := rfl

@[simp] theorem State.pushSS_csl (s : State) (v : Half) : (s.pushSS v).csl = s.csl := rfl

@[simp] theorem State.pushSS_csh (s : State) (v : Half) : (s.pushSS v).csh = s.csh := rfl

@[simp] theorem State.pushSS_cp (s : State) (v : Half) : (s.pushSS v).cp = s.cp := rfl

@[simp] theorem State.pushSS_a (s : State) (v : Half) : (s.pushSS v).a = s.a := rfl

@[simp] theorem State.pushSS_m (s : State) (v : Half) : (s.pushSS v).m = s.m := rfl

@[simp] theorem State.pushSS_atReg (s : State) (v : Half) : (s.pushSS v).atReg = s.atReg := rfl

@[simp] theorem State.pushSS_pmem (s : State) (v : Half) : (s.pushSS v).pmem = s.pmem := rfl

@[simp] theorem State.pushSS_dmem (s : State) (v : Half) : (s.pushSS v).dmem = s.dmem := rfl

@[simp] theorem State.pushSS_launch (s : State) (v : Half) : (s.pushSS v).launch = s.launch := rfl

@[simp] theorem State.pushSS_draws (s : State) (v : Half) : (s.pushSS v).draws = s.draws := rfl

/-! ### Drop from the system stack -/

@[simp] theorem State.dropSS_regs (s : State) : (s.dropSS).regs = s.regs := rfl

@[simp] theorem State.dropSS_ac0 (s : State) : (s.dropSS).ac0 = s.ac0 := rfl

@[simp] theorem State.dropSS_ac1 (s : State) : (s.dropSS).ac1 = s.ac1 := rfl

@[simp] theorem State.dropSS_ccr (s : State) : (s.dropSS).ccr = s.ccr := rfl

@[simp] theorem State.dropSS_sr (s : State) : (s.dropSS).sr = s.sr := rfl

@[simp] theorem State.dropSS_dcsr (s : State) : (s.dropSS).dcsr = s.dcsr := rfl

@[simp] theorem State.dropSS_pc (s : State) : (s.dropSS).pc = s.pc := rfl

@[simp] theorem State.dropSS_ss (s : State) : (s.dropSS).ss = s.ss := rfl

@[simp] theorem State.dropSS_sp (s : State) : (s.dropSS).sp = s.sp - 1 := rfl

@[simp] theorem State.dropSS_delay (s : State) : (s.dropSS).delay = s.delay := rfl

@[simp] theorem State.dropSS_la (s : State) : (s.dropSS).la = s.la := rfl

@[simp] theorem State.dropSS_lc (s : State) : (s.dropSS).lc = s.lc := rfl

@[simp] theorem State.dropSS_csl (s : State) : (s.dropSS).csl = s.csl := rfl

@[simp] theorem State.dropSS_csh (s : State) : (s.dropSS).csh = s.csh := rfl

@[simp] theorem State.dropSS_cp (s : State) : (s.dropSS).cp = s.cp := rfl

@[simp] theorem State.dropSS_a (s : State) : (s.dropSS).a = s.a := rfl

@[simp] theorem State.dropSS_m (s : State) : (s.dropSS).m = s.m := rfl

@[simp] theorem State.dropSS_atReg (s : State) : (s.dropSS).atReg = s.atReg := rfl

@[simp] theorem State.dropSS_pmem (s : State) : (s.dropSS).pmem = s.pmem := rfl

@[simp] theorem State.dropSS_dmem (s : State) : (s.dropSS).dmem = s.dmem := rfl

@[simp] theorem State.dropSS_launch (s : State) : (s.dropSS).launch = s.launch := rfl

@[simp] theorem State.dropSS_draws (s : State) : (s.dropSS).draws = s.draws := rfl

/-! ### Push on the loop stacks -/

@[simp] theorem State.pushLoop_regs (s : State) : (s.pushLoop).regs = s.regs := rfl

@[simp] theorem State.pushLoop_ac0 (s : State) : (s.pushLoop).ac0 = s.ac0 := rfl

@[simp] theorem State.pushLoop_ac1 (s : State) : (s.pushLoop).ac1 = s.ac1 := rfl

@[simp] theorem State.pushLoop_ccr (s : State) : (s.pushLoop).ccr = s.ccr := rfl

@[simp] theorem State.pushLoop_sr (s : State) : (s.pushLoop).sr = s.sr := rfl

@[simp] theorem State.pushLoop_dcsr (s : State) : (s.pushLoop).dcsr = s.dcsr := rfl

@[simp] theorem State.pushLoop_pc (s : State) : (s.pushLoop).pc = s.pc := rfl

@[simp] theorem State.pushLoop_ss (s : State) : (s.pushLoop).ss = s.ss := rfl

@[simp] theorem State.pushLoop_sp (s : State) : (s.pushLoop).sp = s.sp := rfl

@[simp] theorem State.pushLoop_delay (s : State) : (s.pushLoop).delay = s.delay := rfl

@[simp] theorem State.pushLoop_la (s : State) : (s.pushLoop).la = s.la := rfl

@[simp] theorem State.pushLoop_lc (s : State) : (s.pushLoop).lc = s.lc := rfl

@[simp] theorem State.pushLoop_csl (s : State) :
    (s.pushLoop).csl = s.csl.set s.cp.toNat s.la s.cp.isLt := rfl

@[simp] theorem State.pushLoop_csh (s : State) :
    (s.pushLoop).csh = s.csh.set s.cp.toNat s.lc s.cp.isLt := rfl

@[simp] theorem State.pushLoop_cp (s : State) : (s.pushLoop).cp = s.cp + 1 := rfl

@[simp] theorem State.pushLoop_a (s : State) : (s.pushLoop).a = s.a := rfl

@[simp] theorem State.pushLoop_m (s : State) : (s.pushLoop).m = s.m := rfl

@[simp] theorem State.pushLoop_atReg (s : State) : (s.pushLoop).atReg = s.atReg := rfl

@[simp] theorem State.pushLoop_pmem (s : State) : (s.pushLoop).pmem = s.pmem := rfl

@[simp] theorem State.pushLoop_dmem (s : State) : (s.pushLoop).dmem = s.dmem := rfl

@[simp] theorem State.pushLoop_launch (s : State) : (s.pushLoop).launch = s.launch := rfl

@[simp] theorem State.pushLoop_draws (s : State) : (s.pushLoop).draws = s.draws := rfl

/-! ### Pop from the loop stacks -/

@[simp] theorem State.popLoop_regs (s : State) : (s.popLoop).regs = s.regs := rfl

@[simp] theorem State.popLoop_ac0 (s : State) : (s.popLoop).ac0 = s.ac0 := rfl

@[simp] theorem State.popLoop_ac1 (s : State) : (s.popLoop).ac1 = s.ac1 := rfl

@[simp] theorem State.popLoop_ccr (s : State) : (s.popLoop).ccr = s.ccr := rfl

@[simp] theorem State.popLoop_sr (s : State) : (s.popLoop).sr = s.sr := rfl

@[simp] theorem State.popLoop_dcsr (s : State) : (s.popLoop).dcsr = s.dcsr := rfl

@[simp] theorem State.popLoop_pc (s : State) : (s.popLoop).pc = s.pc := rfl

@[simp] theorem State.popLoop_ss (s : State) : (s.popLoop).ss = s.ss := rfl

@[simp] theorem State.popLoop_sp (s : State) : (s.popLoop).sp = s.sp := rfl

@[simp] theorem State.popLoop_delay (s : State) : (s.popLoop).delay = s.delay := rfl

@[simp] theorem State.popLoop_la (s : State) :
    (s.popLoop).la = s.csl[(s.cp - 1).toNat]'(s.cp - 1).isLt := rfl

@[simp] theorem State.popLoop_lc (s : State) :
    (s.popLoop).lc = s.csh[(s.cp - 1).toNat]'(s.cp - 1).isLt := rfl

@[simp] theorem State.popLoop_csl (s : State) : (s.popLoop).csl = s.csl := rfl

@[simp] theorem State.popLoop_csh (s : State) : (s.popLoop).csh = s.csh := rfl

@[simp] theorem State.popLoop_cp (s : State) : (s.popLoop).cp = s.cp - 1 := rfl

@[simp] theorem State.popLoop_a (s : State) : (s.popLoop).a = s.a := rfl

@[simp] theorem State.popLoop_m (s : State) : (s.popLoop).m = s.m := rfl

@[simp] theorem State.popLoop_atReg (s : State) : (s.popLoop).atReg = s.atReg := rfl

@[simp] theorem State.popLoop_pmem (s : State) : (s.popLoop).pmem = s.pmem := rfl

@[simp] theorem State.popLoop_dmem (s : State) : (s.popLoop).dmem = s.dmem := rfl

@[simp] theorem State.popLoop_launch (s : State) : (s.popLoop).launch = s.launch := rfl

@[simp] theorem State.popLoop_draws (s : State) : (s.popLoop).draws = s.draws := rfl

/-! ### The writes of the parts of an instruction -/

@[simp] theorem commit_ac0 (s : State) (e : Effect) : (commit s e).ac0 = e.creg s .ac0 := rfl

@[simp] theorem commit_ac1 (s : State) (e : Effect) : (commit s e).ac1 = e.creg s .ac1 := rfl

@[simp] theorem commit_ccr (s : State) (e : Effect) : (commit s e).ccr = e.ccr s := rfl

@[simp] theorem commit_sr (s : State) (e : Effect) :
    (commit s e).sr = (e.creg s .sr).setWidth 16 := rfl

@[simp] theorem commit_dcsr (s : State) (e : Effect) : (commit s e).dcsr = s.dcsr := by
  unfold commit; rfl

@[simp] theorem commit_pc (s : State) (e : Effect) : (commit s e).pc = s.pc := by
  unfold commit; rfl

@[simp] theorem commit_ss (s : State) (e : Effect) : (commit s e).ss = s.ss := by
  unfold commit; rfl

@[simp] theorem commit_sp (s : State) (e : Effect) :
    (commit s e).sp = (e.creg s .sp).setWidth 4 := rfl

@[simp] theorem commit_delay (s : State) (e : Effect) : (commit s e).delay = s.delay := by
  unfold commit; rfl

@[simp] theorem commit_la (s : State) (e : Effect) :
    (commit s e).la = (e.creg s .la).setWidth 16 := rfl

@[simp] theorem commit_lc (s : State) (e : Effect) :
    (commit s e).lc = (e.creg s .lc).setWidth 16 := rfl

@[simp] theorem commit_csl (s : State) (e : Effect) : (commit s e).csl = s.csl := by
  unfold commit; rfl

@[simp] theorem commit_csh (s : State) (e : Effect) : (commit s e).csh = s.csh := by
  unfold commit; rfl

@[simp] theorem commit_cp (s : State) (e : Effect) :
    (commit s e).cp = (e.creg s .cp).setWidth 3 := rfl

@[simp] theorem commit_atReg (s : State) (e : Effect) :
    (commit s e).atReg = (e.creg s .atReg).setWidth 16 := rfl

@[simp] theorem commit_pmem (s : State) (e : Effect) : (commit s e).pmem = s.pmem := by
  unfold commit; rfl

@[simp] theorem commit_launch (s : State) (e : Effect) : (commit s e).launch = s.launch := by
  unfold commit; rfl

@[simp] theorem commit_draws (s : State) (e : Effect) : (commit s e).draws = s.draws := by
  unfold commit; rfl

/-! ### An instruction placed in program memory -/

@[simp] theorem State.withFetchWord_regs (s : State) (nbits w : Nat) :
    (s.withFetchWord nbits w).regs = s.regs := rfl

@[simp] theorem State.withFetchWord_ac0 (s : State) (nbits w : Nat) :
    (s.withFetchWord nbits w).ac0 = s.ac0 := rfl

@[simp] theorem State.withFetchWord_ac1 (s : State) (nbits w : Nat) :
    (s.withFetchWord nbits w).ac1 = s.ac1 := rfl

@[simp] theorem State.withFetchWord_ccr (s : State) (nbits w : Nat) :
    (s.withFetchWord nbits w).ccr = s.ccr := rfl

@[simp] theorem State.withFetchWord_sr (s : State) (nbits w : Nat) :
    (s.withFetchWord nbits w).sr = s.sr := rfl

@[simp] theorem State.withFetchWord_dcsr (s : State) (nbits w : Nat) :
    (s.withFetchWord nbits w).dcsr = s.dcsr := rfl

@[simp] theorem State.withFetchWord_pc (s : State) (nbits w : Nat) :
    (s.withFetchWord nbits w).pc = s.pc := rfl

@[simp] theorem State.withFetchWord_ss (s : State) (nbits w : Nat) :
    (s.withFetchWord nbits w).ss = s.ss := rfl

@[simp] theorem State.withFetchWord_sp (s : State) (nbits w : Nat) :
    (s.withFetchWord nbits w).sp = s.sp := rfl

@[simp] theorem State.withFetchWord_delay (s : State) (nbits w : Nat) :
    (s.withFetchWord nbits w).delay = s.delay := rfl

@[simp] theorem State.withFetchWord_la (s : State) (nbits w : Nat) :
    (s.withFetchWord nbits w).la = s.la := rfl

@[simp] theorem State.withFetchWord_lc (s : State) (nbits w : Nat) :
    (s.withFetchWord nbits w).lc = s.lc := rfl

@[simp] theorem State.withFetchWord_csl (s : State) (nbits w : Nat) :
    (s.withFetchWord nbits w).csl = s.csl := rfl

@[simp] theorem State.withFetchWord_csh (s : State) (nbits w : Nat) :
    (s.withFetchWord nbits w).csh = s.csh := rfl

@[simp] theorem State.withFetchWord_cp (s : State) (nbits w : Nat) :
    (s.withFetchWord nbits w).cp = s.cp := rfl

@[simp] theorem State.withFetchWord_a (s : State) (nbits w : Nat) :
    (s.withFetchWord nbits w).a = s.a := rfl

@[simp] theorem State.withFetchWord_m (s : State) (nbits w : Nat) :
    (s.withFetchWord nbits w).m = s.m := rfl

@[simp] theorem State.withFetchWord_atReg (s : State) (nbits w : Nat) :
    (s.withFetchWord nbits w).atReg = s.atReg := rfl

@[simp] theorem State.withFetchWord_dmem (s : State) (nbits w : Nat) :
    (s.withFetchWord nbits w).dmem = s.dmem := rfl

@[simp] theorem State.withFetchWord_launch (s : State) (nbits w : Nat) :
    (s.withFetchWord nbits w).launch = s.launch := rfl

@[simp] theorem State.withFetchWord_draws (s : State) (nbits w : Nat) :
    (s.withFetchWord nbits w).draws = s.draws := rfl

end Sys2Proof.Machine
end

