-- ==== Sys2Proof/Laws/Ops.lean ====
section
/-! SUPPORT. What the shared operations can do, said once: parts and their combination, the writes of
an instruction, the end of a step, and an ALU instruction as its operation beside its transfer. -/

namespace Sys2Proof.Machine

/-! ### Parts -/

/-- Nothing written before a part. -/
@[simp] theorem Effect.empty_and (e : Effect) : Effect.and {} e = e := by
  cases e; simp [Effect.and]

/-- Nothing written after a part. -/
@[simp] theorem Effect.and_empty (e : Effect) : Effect.and e {} = e := by
  cases e with
  | mk r c f m => cases m <;> simp [Effect.and]

/-- Two parts run together when both do. -/
theorem both_next (p q : Part) (e : Effect) :
    both p q = .next e ↔ ∃ a b, p = .next a ∧ q = .next b ∧ e = a.and b := by
  cases p <;> cases q <;> simp [both, eq_comm]

/-- A part under a condition: what it writes, or nothing. -/
theorem guarded_next (b : Bool) (p : Part) (e : Effect) :
    guarded b p = .next e ↔ (b = true ∧ p = .next e) ∨ (b = false ∧ e = {}) := by
  cases b <;> cases p <;> simp [guarded, eq_comm]

/-- An instruction without transfer of control ends in a next state exactly when its parts do. -/
theorem finish_next (s t : State) (len : Half) (p : Part) :
    finish s len p = .next t ↔ ∃ e, p = .next e ∧ t = advance len .fallthrough (commit s e) := by
  cases p <;> simp [finish, eq_comm]

/-- A program-flow instruction runs exactly outside a delay slot. -/
theorem flow_next (s t u : State) (b : Bool) (len : Half) (ctl : Ctl) :
    flow s b len ctl t = .next u ↔
      s.delay = none ∧ u = if b then advance len ctl t else advance len .fallthrough s := by
  unfold flow
  cases s.delay <;> simp [eq_comm]

/-! ### Competing values -/

/-- No value written: the old one stays. -/
@[simp] theorem resolve_nil {α : Type} (k : Nat) (old : α) : resolve k old [] = old := rfl

/-- One value written: that one. -/
@[simp] theorem resolve_single {α : Type} (k : Nat) (old v : α) : resolve k old [v] = v := rfl

/-- Several values written: one of them. -/
theorem resolve_mem {α : Type} (k : Nat) (old : α) (vs : List α) (h : vs ≠ []) :
    resolve k old vs ∈ vs := by
  match vs, h with
  | [v], _ => simp
  | v :: w :: vs, _ =>
    have hlt : k % (vs.length + 2) < (v :: w :: vs).length := by
      simp only [List.length_cons]
      exact Nat.mod_lt k (by omega)
    simp only [resolve, List.getD_eq_getElem?_getD, List.getElem?_eq_getElem hlt, Option.getD_some]
    exact List.getElem_mem hlt

/-! ### The writes of an instruction -/

/-- A data register after the writes. -/
theorem commit_r16 (s : State) (e : Effect) (n : RegNo) :
    (commit s e).r16 n = resolve (s.pick n.toNat) (s.r16 n) (e.regVals n) := by
  simp only [State.r16, commit, Vector.getElem_ofFn]
  rfl

/-- An address register after the writes. -/
theorem commit_a (s : State) (e : Effect) (n : BitVec 3) :
    (commit s e).a[n.toNat]'n.isLt = (e.creg s (.a n)).setWidth 16 := by
  simp only [commit, Vector.getElem_ofFn]
  rfl

/-- A modifier register after the writes. -/
theorem commit_m (s : State) (e : Effect) (n : BitVec 3) :
    (commit s e).m[n.toNat]'n.isLt = (e.creg s (.m n)).setWidth 16 := by
  simp only [commit, Vector.getElem_ofFn]
  rfl

/-- Data memory after the writes. -/
theorem commit_dmem (s : State) (e : Effect) :
    (commit s e).dmem = match e.mem with
      | none => s.dmem
      | some (addr, v) => s.dmem.writeWord addr.toNat v := by
  unfold commit; rfl

/-- A control register that nothing writes. -/
theorem creg_of_none (s : State) (e : Effect) (c : CReg) (h : e.ctrlVals c = []) :
    e.creg s c = s.readCReg c := by
  simp [Effect.creg, h]

/-- Writing nothing changes nothing. -/
theorem commit_empty (s : State) : commit s {} = s := by
  have hc : ∀ c, Effect.creg {} s c = s.readCReg c := fun c => creg_of_none s {} c rfl
  have hr : (commit s {}).regs = s.regs := by
    unfold commit
    ext i hi
    simp [Effect.regVals]
  have ha : (commit s {}).a = s.a := by
    unfold commit
    ext i hi
    simp [hc, State.readCReg]
  have hm : (commit s {}).m = s.m := by
    unfold commit
    ext i hi
    simp [hc, State.readCReg]
  have hcc : Effect.ccr {} s = s.ccr := by
    simp [Effect.ccr, Effect.setFlag, hc, State.readCReg]
  have hs : commit s {} = { s with
      regs := (commit s {}).regs, ac0 := (commit s {}).ac0, ac1 := (commit s {}).ac1
      ccr := (commit s {}).ccr, sr := (commit s {}).sr, sp := (commit s {}).sp
      la := (commit s {}).la, lc := (commit s {}).lc, cp := (commit s {}).cp
      a := (commit s {}).a, m := (commit s {}).m, atReg := (commit s {}).atReg
      dmem := (commit s {}).dmem } := by unfold commit; rfl
  rw [hs, hr, ha, hm]
  simp [hc, hcc, State.readCReg, commit_dmem]

/-! ### The end of a step -/

/-- The end of a step in a delay slot: the pending target. -/
theorem advance_delayed (len x : Half) (ctl : Ctl) (s : State) (h : s.delay = some x) :
    advance len ctl s = { s with draws := s.draws + 1, pc := x, delay := none } := by
  simp [advance, h]

/-- The end of a step that transfers control. -/
theorem advance_goto (len x : Half) (s : State) (h : s.delay = none) :
    advance len (.goto x) s = { s with draws := s.draws + 1, pc := x } := by
  simp [advance, h]

/-- The end of a step that leaves a delayed transfer pending. -/
theorem advance_later (len x : Half) (s : State) (h : s.delay = none) :
    advance len (.delayed x) s
      = { s with draws := s.draws + 1, pc := s.pc + len, delay := some x } := by
  simp [advance, h]

/-- The end of a step that is not the last of an active loop. -/
theorem advance_plain (len : Half) (s : State) (h : s.delay = none)
    (hl : ¬ (s.loopActive = true ∧ s.pc = s.la)) :
    advance len .fallthrough s = { s with draws := s.draws + 1, pc := s.pc + len } := by
  have : (s.loopActive && s.pc == s.la) = false := by
    simpa using hl
  simp only [advance, h]
  rw [if_neg]
  simpa [State.loopActive] using hl

/-- What the end of a step leaves: everything but PC, the pending transfer, the loop registers, the
stack pointers and the step counter. -/
theorem advance_keeps (len : Half) (ctl : Ctl) (s : State) :
    let t := advance len ctl s
    t.regs = s.regs ∧ t.ac0 = s.ac0 ∧ t.ac1 = s.ac1 ∧ t.ccr = s.ccr ∧ t.sr = s.sr ∧ t.dcsr = s.dcsr
      ∧ t.ss = s.ss ∧ t.csl = s.csl ∧ t.csh = s.csh ∧ t.a = s.a ∧ t.m = s.m ∧ t.atReg = s.atReg
      ∧ t.pmem = s.pmem ∧ t.dmem = s.dmem ∧ t.launch = s.launch ∧ t.draws = s.draws + 1 := by
  simp only [advance]
  cases s.delay with
  | some x => simp
  | none =>
    cases ctl with
    | goto x => simp
    | delayed x => simp
    | fallthrough =>
      simp only
      split
      · unfold State.endOfLoop
        split
        · simp
        · split <;> simp
      · simp

/-! ### An ALU instruction -/

/-- Each ALU instruction is its operation in its form. -/
theorem exec_of_parts (i : Instr) (op : Op) (f : Form) (s : State) (h : partsOf i = some (op, f)) :
    exec i s = runForm op (aluOf op) f s := by
  cases i <;> simp only [partsOf, Option.some.injEq, Prod.mk.injEq, reduceCtorEq] at h <;>
    (obtain ⟨rfl, rfl⟩ := h; rfl)

/-- A part whose condition is true. -/
@[simp] theorem guarded_true (p : Part) : guarded true p = p := by
  cases p <;> simp [guarded]

/-- The parts of a frame: OP1, and OP2 and the transfer under the condition of 8c. -/
theorem frameParts_eq (s : State) (p1 p2 : Part) (fr : Frame) :
    frameParts s p1 p2 fr
      = both p1 (guarded (frameHolds s fr) (both p2 (frameTransfer s fr))) := by
  cases fr <;> simp [frameParts, frameHolds, frameTransfer]

/-- The parts of a frame beside one operation in the OP1 slot. -/
theorem frameParts_op1 (s : State) (e ex : Effect) (fr : Frame)
    (h : guarded (frameHolds s fr) (frameTransfer s fr) = .next ex) :
    frameParts s (.next e) idle fr = .next (e.and ex) := by
  rw [frameParts_eq, both_next]
  refine ⟨e, ex, rfl, ?_, rfl⟩
  rw [guarded_next] at h ⊢
  obtain ⟨hc, h⟩ | h := h
  · exact .inl ⟨hc, by simp [both_next, idle, h]⟩
  · exact .inr h

/-- The parts of a frame beside one operation in the OP2 slot. -/
theorem frameParts_op2 (s : State) (e ex : Effect) (fr : Frame)
    (h : guarded (frameHolds s fr) (frameTransfer s fr) = .next ex) :
    frameParts s idle (.next e) fr = .next ((if frameHolds s fr then e else {}).and ex) := by
  rw [frameParts_eq, both_next]
  refine ⟨{}, (if frameHolds s fr then e else {}).and ex, rfl, ?_, by simp⟩
  rw [guarded_next] at h ⊢
  obtain ⟨hc, h⟩ | ⟨hc, rfl⟩ := h
  · exact .inl ⟨hc, by simp [both_next, h, hc]⟩
  · exact .inr ⟨hc, by simp [hc]⟩

/-- An ALU instruction runs when its operation and the transfer beside it do: it writes what both
write, the operation under its condition. -/
theorem runForm_next (op : Op) (alu : Alu) (f : Form) (s : State) (e ex : Effect)
    (halu : alu s f.binding = .next e) (hb : beside s f = .next ex)
    (hs : formStop s op f = none) : runForm op alu f s = .next (after s f e ex) := by
  cases f with
  | f1 cc s1 s2 d =>
    obtain rfl : ex = {} := by simpa [beside, transferHolds, idle, eq_comm] using hb
    simp only [Form.binding] at halu
    cases hc : s.holds cc <;>
      simp [runForm, Binding.threeAddr, halu, guarded, finish, after, opHolds, Form.len, hc]
  | f2 cc imm s2 d =>
    obtain rfl : ex = {} := by simpa [beside, transferHolds, idle, eq_comm] using hb
    simp only [Form.binding] at halu
    cases hc : s.holds cc <;>
      simp [runForm, Binding.threeAddr, halu, guarded, finish, after, opHolds, Form.len, hc]
  | f3 imm d =>
    obtain rfl : ex = {} := by simpa [beside, transferHolds, idle, eq_comm] using hb
    simp only [Form.binding] at halu
    simp [runForm, Binding.twoAddr, halu, finish, after, opHolds, Form.len]
  | f4 s1 d x =>
    simp only [beside, transferHolds, guarded_true] at hb
    simp only [Form.binding] at halu
    simp only [runForm, Binding.twoAddr, halu, hb, both, finish, after, opHolds, Form.len, if_true]
  | f5 s1 d x =>
    simp only [beside, transferHolds, guarded_true] at hb
    simp only [Form.binding] at halu
    simp only [runForm, Binding.twoAddr, halu, hb, both, finish, after, opHolds, Form.len, if_true]
  | f6 s1 d x =>
    simp only [beside, transferHolds, guarded_true] at hb
    simp only [Form.binding] at halu
    simp only [runForm, Binding.twoAddr, halu, hb, both, finish, after, opHolds, Form.len, if_true]
  | f7 cc s1 d x =>
    simp only [Form.binding] at halu
    simp only [beside, transferHolds] at hb
    have hg : guarded (s.holds cc) (both (.next e) (xferImm s x))
        = .next ((if s.holds cc then e else {}).and ex) := by
      rw [guarded_next] at hb ⊢
      obtain ⟨hc, hb⟩ | ⟨hc, rfl⟩ := hb
      · exact .inl ⟨hc, by simp [both_next, hb, hc]⟩
      · exact .inr ⟨hc, by simp [hc]⟩
    simp only [runForm, Binding.twoAddr, halu, hg, finish, after, opHolds, Form.len]
    by_cases hc : s.holds cc = true <;> simp [hc]
  | f8 slot m s1 s2 d fr =>
    simp only [Form.binding] at halu
    simp only [beside, transferHolds] at hb
    cases slot with
    | op1 =>
      simp only [formStop] at hs
      simp only [runForm, Binding.threeAddr, halu, runFrame, hs, frameParts_op1 s e ex fr hb, finish,
        after, opHolds, Form.len, if_true]
    | op2 =>
      simp only [formStop] at hs
      simp only [runForm, Binding.threeAddr, halu, runFrame, hs, frameParts_op2 s e ex fr hb, finish,
        after, opHolds, Form.len]
      by_cases hc : frameHolds s fr = true <;> simp [hc]

/-- An ALU instruction that answers a next state: its transfer ran, its operation ran unless its
condition was false, and the state is that of both writes. -/
theorem runForm_inv (op : Op) (alu : Alu) (f : Form) (s t : State)
    (h : runForm op alu f s = .next t) :
    ∃ e ex, (opHolds s f = true → alu s f.binding = .next e) ∧ beside s f = .next ex
      ∧ t = after s f e ex := by
  cases f with
  | f1 cc s1 s2 d =>
    obtain ⟨e, he, rfl⟩ := (finish_next ..).1 h
    obtain ⟨hc, he⟩ | ⟨hc, rfl⟩ := (guarded_next ..).1 he
    · exact ⟨e, {}, fun _ => he, rfl, by simp [after, opHolds, hc, Form.len]⟩
    · exact ⟨{}, {}, fun hh => by simp [opHolds, hc] at hh, rfl,
        by simp [after, Form.len]⟩
  | f2 cc imm s2 d =>
    obtain ⟨e, he, rfl⟩ := (finish_next ..).1 h
    obtain ⟨hc, he⟩ | ⟨hc, rfl⟩ := (guarded_next ..).1 he
    · exact ⟨e, {}, fun _ => he, rfl, by simp [after, opHolds, hc, Form.len]⟩
    · exact ⟨{}, {}, fun hh => by simp [opHolds, hc] at hh, rfl,
        by simp [after, Form.len]⟩
  | f3 imm d =>
    obtain ⟨e, he, rfl⟩ := (finish_next ..).1 h
    exact ⟨e, {}, fun _ => he, rfl, by simp [after, opHolds, Form.len]⟩
  | f4 s1 d x =>
    obtain ⟨e, he, rfl⟩ := (finish_next ..).1 h
    obtain ⟨a, b, ha, hb, rfl⟩ := (both_next ..).1 he
    exact ⟨a, b, fun _ => ha, by simpa [beside, transferHolds] using hb,
      by simp [after, opHolds, Form.len]⟩
  | f5 s1 d x =>
    obtain ⟨e, he, rfl⟩ := (finish_next ..).1 h
    obtain ⟨a, b, ha, hb, rfl⟩ := (both_next ..).1 he
    exact ⟨a, b, fun _ => ha, by simpa [beside, transferHolds] using hb,
      by simp [after, opHolds, Form.len]⟩
  | f6 s1 d x =>
    obtain ⟨e, he, rfl⟩ := (finish_next ..).1 h
    obtain ⟨a, b, ha, hb, rfl⟩ := (both_next ..).1 he
    exact ⟨a, b, fun _ => ha, by simpa [beside, transferHolds] using hb,
      by simp [after, opHolds, Form.len]⟩
  | f7 cc s1 d x =>
    obtain ⟨e, he, rfl⟩ := (finish_next ..).1 h
    obtain ⟨hc, he⟩ | ⟨hc, rfl⟩ := (guarded_next ..).1 he
    · obtain ⟨a, b, ha, hb, rfl⟩ := (both_next ..).1 he
      exact ⟨a, b, fun _ => ha, by simpa [beside, transferHolds, hc] using hb,
        by simp [after, opHolds, hc, Form.len]⟩
    · exact ⟨{}, {}, fun hh => by simp [opHolds, hc] at hh,
        (guarded_next ..).2 (.inr ⟨hc, rfl⟩), by simp [after, Form.len]⟩
  | f8 slot m s1 s2 d fr =>
    cases slot with
    | op1 =>
      simp only [runForm, runFrame] at h
      split at h
      · cases h
      · obtain ⟨e, he, rfl⟩ := (finish_next ..).1 h
        rw [frameParts_eq] at he
        obtain ⟨a, b, ha, hb, rfl⟩ := (both_next ..).1 he
        refine ⟨a, b, fun _ => ha, ?_, by simp [after, opHolds, Form.len]⟩
        simpa only [beside, transferHolds, guarded_next, both_next, idle, Host.Outcome.next.injEq,
          exists_and_left, exists_eq_left', Effect.empty_and, exists_eq_right'] using hb
    | op2 =>
      simp only [runForm, runFrame] at h
      split at h
      · cases h
      · obtain ⟨e, he, rfl⟩ := (finish_next ..).1 h
        rw [frameParts_eq] at he
        obtain ⟨a, b, ha, hb, rfl⟩ := (both_next ..).1 he
        obtain rfl : a = {} := by simpa [idle, eq_comm] using ha
        obtain ⟨hc, hb⟩ | ⟨hc, rfl⟩ := (guarded_next ..).1 hb
        · obtain ⟨e2, ex, h2, hx, rfl⟩ := (both_next ..).1 hb
          exact ⟨e2, ex, fun _ => h2, (guarded_next ..).2 (.inl ⟨hc, hx⟩),
            by simp [after, opHolds, hc, Form.len]⟩
        · exact ⟨{}, {}, fun hh => by simp [opHolds, hc] at hh,
            (guarded_next ..).2 (.inr ⟨hc, rfl⟩), by simp [after, Form.len]⟩

end Sys2Proof.Machine
end

