-- ==== Sys2Proof/Laws/Parts.lean ====
section
/-! SUPPORT. What the shared results of the operations and the data transfers can do, said once, with
the flags as the rules word them. -/

namespace Sys2Proof.Machine

/-! ### Shared results -/

/-- A 16-bit result from its exact value. -/
theorem arith16_eq (op : Op) (b : Binding) (x : Int) (c : Option Bool) :
    arith16 op b x c = .next
      { regs := [(b.dst, BitVec.ofInt 16 (b.scaled op x))]
        flags := [resultFlags (BitVec.ofInt 16 (b.scaled op x))
          (some (lost (b.scaled op x) (BitVec.ofInt 16 (b.scaled op x)))) c] } := by
  simp only [arith16, write16, flagsVC_eq _ _ _ (by decide : 2 ≤ 16), overflows_eq 16 _ (by decide)]

/-- A 32-bit result from its exact value. -/
theorem arith32_eq (op : Op) (b : Binding) (x : Int) (c : Option Bool) :
    arith32 op b x c = .next
      { regs := write32 b.dst (BitVec.ofInt 32 (b.scaled op x))
        flags := [resultFlags (BitVec.ofInt 32 (b.scaled op x))
          (some (lost (b.scaled op x) (BitVec.ofInt 32 (b.scaled op x)))) c] } := by
  simp only [arith32, flagsVC_eq _ _ _ (by decide : 2 ≤ 32), overflows_eq 32 _ (by decide)]

/-- A 16-bit result as it stands. -/
theorem bits16_eq (b : Binding) (r : Half) (v c : Option Bool) :
    bits16 b r v c = .next { regs := [(b.dst, r)], flags := [resultFlags r v c] } := by
  simp only [bits16, write16, flagsVC_eq _ _ _ (by decide : 2 ≤ 16)]

/-- A 32-bit result as it stands. -/
theorem bits32_eq (b : Binding) (r : Long) (v c : Option Bool) :
    bits32 b r v c = .next { regs := write32 b.dst r, flags := [resultFlags r v c] } := by
  simp only [bits32, flagsVC_eq _ _ _ (by decide : 2 ≤ 32)]

/-- The rounded high half as the rule words it. -/
theorem roundedHigh_eq (x : Long) (rnd : Bool) : roundedHigh x rnd = highRounded x rnd := by
  have h16 : (x.extractLsb' 16 1).toNat = (x.getLsbD 16).toNat := by
    rw [BitVec.getLsbD, Nat.testBit_eq_decide_div_mod_eq, BitVec.extractLsb'_toNat,
      Nat.shiftRight_eq_div_pow]
    have := Nat.mod_two_eq_zero_or_one (x.toNat / 2 ^ 16)
    rcases this with h | h <;> rw [h] <;> rfl
  unfold roundedHigh highRounded rnd16 roundUp hi16 lo16
  simp only
  by_cases h1 : (x.extractLsb' 0 16).toNat < 0x8000
  · rw [if_pos h1, if_pos h1]; rfl
  · rw [if_neg h1, if_neg h1]
    by_cases h2 : 0x8000 < (x.extractLsb' 0 16).toNat
    · rw [if_pos h2, if_pos h2]; rfl
    · rw [if_neg h2, if_neg h2]
      cases rnd
      · simp only [Bool.false_eq_true, if_false, h16]
      · rfl

/-- A stop of the combination rules concerns only INSL and the operations with a second result. -/
theorem formStop_none (s : State) (op : Op) (f : Form) (h : clashesWithY op = false)
    (hi : op ≠ .insl) : formStop s op f = none := by
  cases f <;> try rfl
  rename_i slot _ _ _ _ fr
  have hn : clashesWithY .nop = false := rfl
  cases slot <;> simp [formStop, frameStop, h, hi, hn]

/-! ### Transfers -/

/-- The X transfer runs exactly where its address lies in a region it may reach: it loads or stores,
and makes the address generator's writes. -/
theorem xferX_next (s : State) (imm : Half) (x : XferX) (e : Effect) :
    xferX s imm x = .next e ↔
      s.inX (s.aguX x.a x.mode x.u imm).1 = true ∧
        e = if x.de then
            { regs := write32 (longReg x.r) (s.data (s.aguX x.a x.mode x.u imm).1)
              ctrl := (s.aguX x.a x.mode x.u imm).2 }
          else
            { ctrl := (s.aguX x.a x.mode x.u imm).2
              mem := some ((s.aguX x.a x.mode x.u imm).1, s.r32 (longReg x.r)) } := by
  unfold xferX
  simp only
  split
  · rename_i h
    split <;> simp [h, eq_comm]
  · rename_i h
    simp [h]

/-- The Y transfer runs for the field 00, without effect, and where its address lies in YRAM. -/
theorem xferY_next (s : State) (at2 : BitVec 2) (e : Effect) :
    xferY s at2 = .next e ↔
      (at2 = 0 ∧ e = {}) ∨ (at2 ≠ 0 ∧ s.inY (s.aguY at2).1 = true ∧
        e = { regs := write32 0 (s.data (s.aguY at2).1), ctrl := (s.aguY at2).2 }) := by
  unfold xferY idle
  by_cases h : at2 = 0
  · rw [if_pos h]
    exact ⟨fun e' => .inl ⟨h, (Host.Outcome.next.inj e').symm⟩,
      fun e' => e'.elim (fun x => by rw [x.2]) (fun x => absurd h x.1)⟩
  · rw [if_neg h]
    simp only
    by_cases h2 : s.inY (s.aguY at2).1 = true
    · rw [if_pos h2]
      exact ⟨fun e' => .inr ⟨h, h2, (Host.Outcome.next.inj e').symm⟩,
        fun e' => e'.elim (fun x => absurd x.1 h) (fun x => by rw [x.2.2])⟩
    · rw [if_neg h2]
      exact ⟨nofun,
        fun e' => e'.elim (fun x => absurd x.1 h) (fun x => absurd x.2.1 h2)⟩

/-- The transfer between data registers always runs. -/
theorem xferRR_eq (s : State) (x : XferRR) :
    xferRR s x = .next { regs := if x.l then write32 x.rd (s.r32 x.rs) else [(x.rd, s.r16 x.rs)] } := by
  unfold xferRR write16
  split <;> simp_all

/-- The transfer with a control register writes one data register, or one pair, or one control
register that is not protected. -/
theorem xferRC_next (s : State) (x : XferRC) (e : Effect) (h : xferRC s x = .next e) :
    ∃ c, s.rcAt x.sc x.rc = some c ∧ (isLongReg c = true → isEven x.r = true) ∧
      (x.de = true → e = { regs := (if isLongReg c then write32 x.r (s.readCReg c)
        else [(x.r, (s.readCReg c).setWidth 16)]) }) ∧
      (x.de = false → isProtected c = false ∧ e = { ctrl := [(c, (if isLongReg c then s.r32 x.r
        else (s.r16 x.r).setWidth 32))] }) := by
  unfold xferRC at h
  split at h
  · cases h
  · rename_i c hc
    refine ⟨c, hc, ?_⟩
    cases hl : isLongReg c <;> cases he : isEven x.r <;> cases hd : x.de <;>
      cases hp : isProtected c <;> simp_all [write16]

/-- The immediate write of a control register writes that register, which is not protected. -/
theorem xferImmRC_next (s : State) (sc : Bool) (idx : BitVec 5) (imm : Long) (e : Effect) :
    xferImmRC s sc idx imm = .next e ↔
      ∃ c, s.rcAt sc idx = some c ∧ isProtected c = false ∧ e = { ctrl := [(c, imm)] } := by
  unfold xferImmRC
  split
  · rename_i h; simp [h]
  · rename_i c h
    cases hp : isProtected c
    · exact ⟨fun e' => ⟨c, h, hp, (Host.Outcome.next.inj e').symm⟩,
        fun ⟨d, hd, _, he⟩ => by rw [h] at hd; cases hd; rw [he]; rfl⟩
    · exact ⟨nofun,
        fun ⟨d, hd, hf, _⟩ => by rw [h] at hd; cases hd; rw [hp] at hf; cases hf⟩

/-- A number `sc`, `idx` names only registers of the group of `sc`. -/
theorem rcAt_group (s : State) (sc : Bool) (idx : BitVec 5) (c : CReg) (h : s.rcAt sc idx = some c) :
    groupOf c = sc := by
  simpa using (Option.filter_eq_some_iff.mp h).2

/-- The immediate transfer writes one data register, or one pair, or one control register that is not
protected. -/
theorem xferImm_next (s : State) (x : XferImm) (e : Effect) (h : xferImm s x = .next e) :
    (x.sr = false → e = { regs := if x.lsc then write32 x.rd x.imm
        else [(x.rd, x.imm.setWidth 16)] }) ∧
      (x.sr = true → ∃ c, s.rcAt x.lsc x.rd = some c ∧ isProtected c = false ∧
        e = { ctrl := [(c, x.imm)] }) := by
  unfold xferImm at h
  cases hs : x.sr
  · cases hl : x.lsc <;> simp_all [write16]
  · rw [hs, if_pos rfl] at h
    exact ⟨nofun, fun _ => (xferImmRC_next ..).mp h⟩

/-- The address generator writes, of the AGU registers, only the named A register, AT and the M
registers. -/
theorem aguX_writes (s : State) (n mode : BitVec 3) (u : Bool) (imm : Half) (w : CReg × Long)
    (h : w ∈ (s.aguX n mode u imm).2) : w.1 = .a n ∨ w.1 = .atReg ∨ ∃ k, w.1 = .m k := by
  unfold State.aguX at h
  simp only at h
  split at h
  · simp at h
  · split at h
    · simp at h
    · split at h
      · simp only [List.mem_singleton] at h
        exact .inl (by rw [h])
      · simp only [List.mem_cons, modifierWrites, List.mem_map] at h
        obtain rfl | rfl | ⟨i, -, rfl⟩ := h
        · exact .inl rfl
        · exact .inr (.inl rfl)
        · exact .inr (.inr ⟨_, rfl⟩)

/-- An accumulator after SAC2: its exact result when it fits, else the low 32 bits, or the open limit
in the saturation mode. -/
theorem sac2Narrow_eq (s : State) (x : Int) (limit : Long) :
    s.sac2Narrow x limit = if s.satMode = true ∧ overflows 32 x = true then limit
      else BitVec.ofInt 32 x := by
  simp [State.sac2Narrow]

/-! ### The step -/

/-- A step that answers a next state is the meaning of an instruction in the running state. -/
theorem step_next (s t : State) (h : step s = .next t) :
    s.running = true ∧ ∃ i, s.current = .next i ∧ exec i s = .next t := by
  unfold step at h
  split at h
  · cases h
  · rename_i hr
    split at h
    · rename_i i hi
      exact ⟨by simpa using hr, i, hi, h⟩
    · cases h
    · cases h

/-- The current instruction is what the decoder reads at PC, inside program memory. -/
theorem current_next (s : State) (i : Instr) :
    s.current = .next i ↔
      s.fetchable = true ∧ decode s.launch (s.fetch s.pc) (s.fetch (s.pc + 1)) = .ok i := by
  unfold State.current State.fetchable
  simp only
  cases hp : s.inProgram s.pc
  · simp
  · cases ht : isTwoWords s.launch (s.fetch s.pc) <;> cases h1 : s.inProgram (s.pc + 1) <;>
      cases hd : decode s.launch (s.fetch s.pc) (s.fetch (s.pc + 1)) <;> simp

end Sys2Proof.Machine
end

