-- ==== Sys2Proof/Laws/PerInstr.lean ====
section
/-! SUPPORT. A law of each instruction as syntax: how many words its encoding has, from its form alone
(spec/30_encoding.md R101, R132). -/

namespace Sys2Proof.Laws.WordCount

/-- The form is two words long: formats 2, 7 and 8 (spec/30_encoding.md R132). -/
def wideForm : Form → Bool
  | .f2 .. | .f7 .. | .f8 .. => true
  | _ => false

/-- The instruction is two words long: formats 2, 2d, 7, 7t and 8 (spec/30_encoding.md R132). -/
def wide (i : Instr) : Bool :=
  match partsOf i with
  | some (_, f) => wideForm f
  | none =>
    match i with
    | .doNAbs .. | .doNRel .. | .move (.memImm ..) => true
    | .frame8a .. | .frame8b .. | .frame8c .. | .frame8d .. => true
    | _ => false

/-- However an instruction is encoded, it has a second word exactly when its form is a wide one. -/
def Statement (i : Instr) : Prop :=
  ∀ (l : Launch) (c : Code), encode l i = some c → c.w2.isSome = wide i

/-- Format 8 has two words. -/
theorem pair_w2 (l : Launch) (i1 : Slot1) (i2 : Slot2) (fr : Frame) (c : Code)
    (h : encodePair l i1 i2 fr = some c) : c.w2.isSome = true := by
  unfold encodePair at h
  split at h
  · cases h; rfl
  · cases h

/-- The words of an ALU operation follow its form. -/
theorem op_w2 (l : Launch) (op : Op) (f : Form) (c : Code) (h : encodeOp l op f = some c) :
    c.w2.isSome = wideForm f := by
  cases f with
  | f8 slot m s1 s2 d fr => cases slot <;> exact pair_w2 _ _ _ _ _ h
  | _ =>
    obtain ⟨k, -, hk⟩ := Option.bind_eq_some_iff.1 h
    cases hk; rfl

/-- ABS. -/
theorem abs (f : Form) : Statement (.abs f) := fun l c h => op_w2 l _ f c h

/-- ABSL. -/
theorem absl (f : Form) : Statement (.absl f) := fun l c h => op_w2 l _ f c h

/-- ADC. -/
theorem adc (f : Form) : Statement (.adc f) := fun l c h => op_w2 l _ f c h

/-- ADCL. -/
theorem adcl (f : Form) : Statement (.adcl f) := fun l c h => op_w2 l _ f c h

/-- ADC16L. -/
theorem adc16l (f : Form) : Statement (.adc16l f) := fun l c h => op_w2 l _ f c h

/-- ADD. -/
theorem add (f : Form) : Statement (.add f) := fun l c h => op_w2 l _ f c h

/-- ADDL. -/
theorem addl (f : Form) : Statement (.addl f) := fun l c h => op_w2 l _ f c h

/-- ADDLR. -/
theorem addlr (f : Form) : Statement (.addlr f) := fun l c h => op_w2 l _ f c h

/-- ADDLRTR. -/
theorem addlrtr (f : Form) : Statement (.addlrtr f) := fun l c h => op_w2 l _ f c h

/-- ADDSUB. -/
theorem addsub (f : Form) : Statement (.addsub f) := fun l c h => op_w2 l _ f c h

/-- ADDSUBL. -/
theorem addsubl (f : Form) : Statement (.addsubl f) := fun l c h => op_w2 l _ f c h

/-- ADDSUBX. -/
theorem addsubx (f : Form) : Statement (.addsubx f) := fun l c h => op_w2 l _ f c h

/-- ADDX. -/
theorem addx (f : Form) : Statement (.addx f) := fun l c h => op_w2 l _ f c h

/-- AD1. -/
theorem ad1 (f : Form) : Statement (.ad1 f) := fun l c h => op_w2 l _ f c h

/-- AND. -/
theorem and (f : Form) : Statement (.and f) := fun l c h => op_w2 l _ f c h

/-- ANDC. -/
theorem andc (f : Form) : Statement (.andc f) := fun l c h => op_w2 l _ f c h

/-- ANDCL. -/
theorem andcl (f : Form) : Statement (.andcl f) := fun l c h => op_w2 l _ f c h

/-- ANDI. -/
theorem andi (f : Form) : Statement (.andi f) := fun l c h => op_w2 l _ f c h

/-- ANDL. -/
theorem andl (f : Form) : Statement (.andl f) := fun l c h => op_w2 l _ f c h

/-- ASH. -/
theorem ash (f : Form) : Statement (.ash f) := fun l c h => op_w2 l _ f c h

/-- ASL. -/
theorem asl (f : Form) : Statement (.asl f) := fun l c h => op_w2 l _ f c h

/-- ASLL. -/
theorem asll (f : Form) : Statement (.asll f) := fun l c h => op_w2 l _ f c h

/-- ASLX. -/
theorem aslx (f : Form) : Statement (.aslx f) := fun l c h => op_w2 l _ f c h

/-- ASR. -/
theorem asr (f : Form) : Statement (.asr f) := fun l c h => op_w2 l _ f c h

/-- ASRL. -/
theorem asrl (f : Form) : Statement (.asrl f) := fun l c h => op_w2 l _ f c h

/-- ASRLE. -/
theorem asrle (f : Form) : Statement (.asrle f) := fun l c h => op_w2 l _ f c h

/-- ASRX. -/
theorem asrx (f : Form) : Statement (.asrx f) := fun l c h => op_w2 l _ f c h

/-- B. -/
theorem b (cc : Cond) (t : Target) : Statement (.b cc t) := fun _ _ h => by cases h; rfl

/-- BD. -/
theorem bd (cc : Cond) (t : Target) : Statement (.bd cc t) := fun _ _ h => by cases h; rfl

/-- BS. -/
theorem bs (cc : Cond) (t : Target) : Statement (.bs cc t) := fun _ _ h => by cases h; rfl

/-- BTST. -/
theorem btst (f : Form) : Statement (.btst f) := fun l c h => op_w2 l _ f c h

/-- BTSTL. -/
theorem btstl (f : Form) : Statement (.btstl f) := fun l c h => op_w2 l _ f c h

/-- CLR. -/
theorem clr (f : Form) : Statement (.clr f) := fun l c h => op_w2 l _ f c h

/-- CLRL. -/
theorem clrl (f : Form) : Statement (.clrl f) := fun l c h => op_w2 l _ f c h

/-- CMP. -/
theorem cmp (f : Form) : Statement (.cmp f) := fun l c h => op_w2 l _ f c h

/-- CMPE. -/
theorem cmpe (f : Form) : Statement (.cmpe f) := fun l c h => op_w2 l _ f c h

/-- CMPL. -/
theorem cmpl (f : Form) : Statement (.cmpl f) := fun l c h => op_w2 l _ f c h

/-- CMPM. -/
theorem cmpm (f : Form) : Statement (.cmpm f) := fun l c h => op_w2 l _ f c h

/-- CMPML. -/
theorem cmpml (f : Form) : Statement (.cmpml f) := fun l c h => op_w2 l _ f c h

/-- CS2. -/
theorem cs2 (f : Form) : Statement (.cs2 f) := fun l c h => op_w2 l _ f c h

/-- CVEF. -/
theorem cvef (f : Form) : Statement (.cvef f) := fun l c h => op_w2 l _ f c h

/-- CVFI. -/
theorem cvfi (f : Form) : Statement (.cvfi f) := fun l c h => op_w2 l _ f c h

/-- CVIF. -/
theorem cvif (f : Form) : Statement (.cvif f) := fun l c h => op_w2 l _ f c h

/-- DEC. -/
theorem dec (f : Form) : Statement (.dec f) := fun l c h => op_w2 l _ f c h

/-- DECL. -/
theorem decl (f : Form) : Statement (.decl f) := fun l c h => op_w2 l _ f c h

/-- DISPFX. -/
theorem dispfx (f : Form) : Statement (.dispfx f) := fun l c h => op_w2 l _ f c h

/-- DISPX. -/
theorem dispx (f : Form) : Statement (.dispx f) := fun l c h => op_w2 l _ f c h

/-- DO__N_abs. -/
theorem doNAbs (n : BitVec 14) (last : Half) : Statement (.doNAbs n last) :=
  fun _ _ h => by cases h; rfl

/-- DO__N_rel. -/
theorem doNRel (n : BitVec 14) (last : Half) : Statement (.doNRel n last) :=
  fun _ _ h => by cases h; rfl

/-- DO_d_abs. -/
theorem doDAbs (d : RegNo) (last : Half) : Statement (.doDAbs d last) :=
  fun _ _ h => by cases h; rfl

/-- DO_d_rel. -/
theorem doDRel (d : RegNo) (last : Half) : Statement (.doDRel d last) :=
  fun _ _ h => by cases h; rfl

/-- DOFOR_abs. -/
theorem doforAbs (last : Half) : Statement (.doforAbs last) := fun _ _ h => by cases h; rfl

/-- DOFOR_rel. -/
theorem doforRel (last : Half) : Statement (.doforRel last) := fun _ _ h => by cases h; rfl

/-- ENDDO. -/
theorem enddo : Statement .enddo := fun _ _ h => by cases h; rfl

/-- EOR. -/
theorem eor (f : Form) : Statement (.eor f) := fun l c h => op_w2 l _ f c h

/-- EORL. -/
theorem eorl (f : Form) : Statement (.eorl f) := fun l c h => op_w2 l _ f c h

/-- FADD. -/
theorem fadd (f : Form) : Statement (.fadd f) := fun l c h => op_w2 l _ f c h

/-- FAS. -/
theorem fas (f : Form) : Statement (.fas f) := fun l c h => op_w2 l _ f c h

/-- FIN. -/
theorem fin (f : Form) : Statement (.fin f) := fun l c h => op_w2 l _ f c h

/-- FINR. -/
theorem finr (f : Form) : Statement (.finr f) := fun l c h => op_w2 l _ f c h

/-- FINT. -/
theorem fint (f : Form) : Statement (.fint f) := fun l c h => op_w2 l _ f c h

/-- FLOOR. -/
theorem floor (f : Form) : Statement (.floor f) := fun l c h => op_w2 l _ f c h

/-- FMPY. -/
theorem fmpy (f : Form) : Statement (.fmpy f) := fun l c h => op_w2 l _ f c h

/-- FSUB. -/
theorem fsub (f : Form) : Statement (.fsub f) := fun l c h => op_w2 l _ f c h

/-- FTR. -/
theorem ftr (f : Form) : Statement (.ftr f) := fun l c h => op_w2 l _ f c h

/-- FTRFL. -/
theorem ftrfl (f : Form) : Statement (.ftrfl f) := fun l c h => op_w2 l _ f c h

/-- FTRL. -/
theorem ftrl (f : Form) : Statement (.ftrl f) := fun l c h => op_w2 l _ f c h

/-- FTST. -/
theorem ftst (f : Form) : Statement (.ftst f) := fun l c h => op_w2 l _ f c h

/-- INC. -/
theorem inc (f : Form) : Statement (.inc f) := fun l c h => op_w2 l _ f c h

/-- INCL. -/
theorem incl (f : Form) : Statement (.incl f) := fun l c h => op_w2 l _ f c h

/-- INSL. -/
theorem insl (f : Form) : Statement (.insl f) := fun l c h => op_w2 l _ f c h

/-- J. -/
theorem j (cc : Cond) (t : Target) : Statement (.j cc t) := fun _ _ h => by cases h; rfl

/-- JD. -/
theorem jd (cc : Cond) (t : Target) : Statement (.jd cc t) := fun _ _ h => by cases h; rfl

/-- JS. -/
theorem js (cc : Cond) (t : Target) : Statement (.js cc t) := fun _ _ h => by cases h; rfl

/-- LSL. -/
theorem lsl (f : Form) : Statement (.lsl f) := fun l c h => op_w2 l _ f c h

/-- LSLL. -/
theorem lsll (f : Form) : Statement (.lsll f) := fun l c h => op_w2 l _ f c h

/-- LSLX. -/
theorem lslx (f : Form) : Statement (.lslx f) := fun l c h => op_w2 l _ f c h

/-- LSR. -/
theorem lsr (f : Form) : Statement (.lsr f) := fun l c h => op_w2 l _ f c h

/-- LSRL. -/
theorem lsrl (f : Form) : Statement (.lsrl f) := fun l c h => op_w2 l _ f c h

/-- LSRX. -/
theorem lsrx (f : Form) : Statement (.lsrx f) := fun l c h => op_w2 l _ f c h

/-- MAC. -/
theorem mac (f : Form) : Statement (.mac f) := fun l c h => op_w2 l _ f c h

/-- MACL. -/
theorem macl (f : Form) : Statement (.macl f) := fun l c h => op_w2 l _ f c h

/-- MMACX. -/
theorem mmacx (f : Form) : Statement (.mmacx f) := fun l c h => op_w2 l _ f c h

/-- MAC2. -/
theorem mac2 (f : Form) : Statement (.mac2 f) := fun l c h => op_w2 l _ f c h

/-- MAX. -/
theorem max (f : Form) : Statement (.max f) := fun l c h => op_w2 l _ f c h

/-- MAXL. -/
theorem maxl (f : Form) : Statement (.maxl f) := fun l c h => op_w2 l _ f c h

/-- MAXM. -/
theorem maxm (f : Form) : Statement (.maxm f) := fun l c h => op_w2 l _ f c h

/-- MAXML. -/
theorem maxml (f : Form) : Statement (.maxml f) := fun l c h => op_w2 l _ f c h

/-- MIN. -/
theorem min (f : Form) : Statement (.min f) := fun l c h => op_w2 l _ f c h

/-- MINL. -/
theorem minl (f : Form) : Statement (.minl f) := fun l c h => op_w2 l _ f c h

/-- MINM. -/
theorem minm (f : Form) : Statement (.minm f) := fun l c h => op_w2 l _ f c h

/-- MINML. -/
theorem minml (f : Form) : Statement (.minml f) := fun l c h => op_w2 l _ f c h

/-- MOVE. -/
theorem move (f : MoveForm) : Statement (.move f) := by
  intro l c h
  cases f <;> (cases h; rfl)

/-- MOVE__16_AGU. -/
theorem move16Agu (d : BitVec 5) (imm : Half) : Statement (.move16Agu d imm) :=
  fun _ _ h => by cases h; rfl

/-- MOVE__16_PCU. -/
theorem move16Pcu (d : BitVec 5) (imm : Half) : Statement (.move16Pcu d imm) :=
  fun _ _ h => by cases h; rfl

/-- MPF. -/
theorem mpf (f : Form) : Statement (.mpf f) := fun l c h => op_w2 l _ f c h

/-- MPF2. -/
theorem mpf2 (f : Form) : Statement (.mpf2 f) := fun l c h => op_w2 l _ f c h

/-- MPSS. -/
theorem mpss (f : Form) : Statement (.mpss f) := fun l c h => op_w2 l _ f c h

/-- MPUU. -/
theorem mpuu (f : Form) : Statement (.mpuu f) := fun l c h => op_w2 l _ f c h

/-- MPX. -/
theorem mpx (f : Form) : Statement (.mpx f) := fun l c h => op_w2 l _ f c h

/-- MSKG. -/
theorem mskg (f : Form) : Statement (.mskg f) := fun l c h => op_w2 l _ f c h

/-- MSKGL. -/
theorem mskgl (f : Form) : Statement (.mskgl f) := fun l c h => op_w2 l _ f c h

/-- NEG. -/
theorem neg (f : Form) : Statement (.neg f) := fun l c h => op_w2 l _ f c h

/-- NEGL. -/
theorem negl (f : Form) : Statement (.negl f) := fun l c h => op_w2 l _ f c h

/-- NOP. -/
theorem nop : Statement .nop := fun _ _ h => by cases h; rfl

/-- NOT. -/
theorem not (f : Form) : Statement (.not f) := fun l c h => op_w2 l _ f c h

/-- NOTL. -/
theorem notl (f : Form) : Statement (.notl f) := fun l c h => op_w2 l _ f c h

/-- OR. -/
theorem or (f : Form) : Statement (.or f) := fun l c h => op_w2 l _ f c h

/-- ORC. -/
theorem orc (f : Form) : Statement (.orc f) := fun l c h => op_w2 l _ f c h

/-- ORCL. -/
theorem orcl (f : Form) : Statement (.orcl f) := fun l c h => op_w2 l _ f c h

/-- ORI. -/
theorem ori (f : Form) : Statement (.ori f) := fun l c h => op_w2 l _ f c h

/-- ORL. -/
theorem orl (f : Form) : Statement (.orl f) := fun l c h => op_w2 l _ f c h

/-- PACK. -/
theorem pack (f : Form) : Statement (.pack f) := fun l c h => op_w2 l _ f c h

/-- PACKL. -/
theorem packl (f : Form) : Statement (.packl f) := fun l c h => op_w2 l _ f c h

/-- PDN. -/
theorem pdn (f : Form) : Statement (.pdn f) := fun l c h => op_w2 l _ f c h

/-- PDNE. -/
theorem pdne (f : Form) : Statement (.pdne f) := fun l c h => op_w2 l _ f c h

/-- PDNL. -/
theorem pdnl (f : Form) : Statement (.pdnl f) := fun l c h => op_w2 l _ f c h

/-- PDNLE. -/
theorem pdnle (f : Form) : Statement (.pdnle f) := fun l c h => op_w2 l _ f c h

/-- PDNX. -/
theorem pdnx (f : Form) : Statement (.pdnx f) := fun l c h => op_w2 l _ f c h

/-- RNDL. -/
theorem rndl (f : Form) : Statement (.rndl f) := fun l c h => op_w2 l _ f c h

/-- ROL. -/
theorem rol (f : Form) : Statement (.rol f) := fun l c h => op_w2 l _ f c h

/-- ROLL. -/
theorem roll (f : Form) : Statement (.roll f) := fun l c h => op_w2 l _ f c h

/-- ROR. -/
theorem ror (f : Form) : Statement (.ror f) := fun l c h => op_w2 l _ f c h

/-- RORL. -/
theorem rorl (f : Form) : Statement (.rorl f) := fun l c h => op_w2 l _ f c h

/-- SAC2. -/
theorem sac2 (f : Form) : Statement (.sac2 f) := fun l c h => op_w2 l _ f c h

/-- SAH. -/
theorem sah (f : Form) : Statement (.sah f) := fun l c h => op_w2 l _ f c h

/-- SBC. -/
theorem sbc (f : Form) : Statement (.sbc f) := fun l c h => op_w2 l _ f c h

/-- SBCL. -/
theorem sbcl (f : Form) : Statement (.sbcl f) := fun l c h => op_w2 l _ f c h

/-- SMB. -/
theorem smb (f : Form) : Statement (.smb f) := fun l c h => op_w2 l _ f c h

/-- SMBL. -/
theorem smbl (f : Form) : Statement (.smbl f) := fun l c h => op_w2 l _ f c h

/-- STOP. -/
theorem stop : Statement .stop := fun _ _ h => by cases h; rfl

/-- SUB. -/
theorem sub (f : Form) : Statement (.sub f) := fun l c h => op_w2 l _ f c h

/-- SUBL. -/
theorem subl (f : Form) : Statement (.subl f) := fun l c h => op_w2 l _ f c h

/-- SUBLR. -/
theorem sublr (f : Form) : Statement (.sublr f) := fun l c h => op_w2 l _ f c h

/-- SUBLRTR. -/
theorem sublrtr (f : Form) : Statement (.sublrtr f) := fun l c h => op_w2 l _ f c h

/-- SUBX. -/
theorem subx (f : Form) : Statement (.subx f) := fun l c h => op_w2 l _ f c h

/-- SWL. -/
theorem swl (f : Form) : Statement (.swl f) := fun l c h => op_w2 l _ f c h

/-- TR. -/
theorem tr (f : Form) : Statement (.tr f) := fun l c h => op_w2 l _ f c h

/-- TRL. -/
theorem trl (f : Form) : Statement (.trl f) := fun l c h => op_w2 l _ f c h

/-- TST. -/
theorem tst (f : Form) : Statement (.tst f) := fun l c h => op_w2 l _ f c h

/-- TSTL. -/
theorem tstl (f : Form) : Statement (.tstl f) := fun l c h => op_w2 l _ f c h

/-- TSTX. -/
theorem tstx (f : Form) : Statement (.tstx f) := fun l c h => op_w2 l _ f c h

/-- FRAME_8a. -/
theorem frame8a (i1 : Slot1) (i2 : Slot2) (at2 : BitVec 2) (x : XferX) : Statement (.frame8a i1 i2 at2 x) :=
  fun l c h => pair_w2 l _ _ _ c h

/-- FRAME_8b. -/
theorem frame8b (i1 : Slot1) (i2 : Slot2) (at2 : BitVec 2) (x : XferRR) : Statement (.frame8b i1 i2 at2 x) :=
  fun l c h => pair_w2 l _ _ _ c h

/-- FRAME_8c. -/
theorem frame8c (i1 : Slot1) (i2 : Slot2) (cc : Cond) (rs rd : BitVec 4) : Statement (.frame8c i1 i2 cc rs rd) :=
  fun l c h => pair_w2 l _ _ _ c h

/-- FRAME_8d. -/
theorem frame8d (i1 : Slot1) (i2 : Slot2) (x : XferRC) : Statement (.frame8d i1 i2 x) :=
  fun l c h => pair_w2 l _ _ _ c h

/-- RTS. -/
theorem rts (cc : Cond) : Statement (.rts cc) := by
  intro l c h
  obtain ⟨w, -, hw⟩ := Option.map_eq_some_iff.1 h
  cases hw; rfl

/-- CVFE. -/
theorem cvfe (f : Form) : Statement (.cvfe f) := fun l c h => op_w2 l _ f c h

/-- MPF2S. -/
theorem mpf2s (f : Form) : Statement (.mpf2s f) := fun l c h => op_w2 l _ f c h

/-- MPYL. -/
theorem mpyl (f : Form) : Statement (.mpyl f) := fun l c h => op_w2 l _ f c h

end Sys2Proof.Laws.WordCount
end

