-- ==== Sys2Proof/Tests/Slice0.lean ====
section
/-! SUPPORT. The model's own tests: ill-formed terms that `WellFormed` refuses, words from the spec's
encodings that decode to their instruction, one step each from the worked examples of
spec/95_test_vectors.md, and a witness for the hypotheses of each obligation. -/

namespace Sys2Proof.Tests

open Sys2Proof.Machine

/-! ### Helpers -/

/-- A launch that supplies the lost codes, each free in the tables of spec/30_encoding.md. -/
def openLaunch : Launch :=
  { Launch.reset with
    rtsWord := some 0xF80001DF, cvfeOpcode := some 0x4B, mpf2sCode := some (0b00011, true)
    mpylCode := some (0b11111, false) }

/-- The reset state with some data registers set. -/
def withRegs (s : State) (l : List (Fin 32 × Half)) : State :=
  { s with regs := l.foldl (fun r p => r.set p.1.val p.2 p.1.isLt) s.regs }

/-- One step on an instruction word pair, from a state with some registers: whether it answers a
state with the expected registers, the expected flags under a mask, and a further property. -/
def runs (w w2 : Long) (s : State) (rl : List (Fin 32 × Half)) (el : List (RegNo × Half))
    (mask flags : Half) (p : State → Bool) : Bool :=
  match step ((withRegs s rl).withFetchWord 64 (w.toNat + w2.toNat * 2 ^ 32)) with
  | .next t => el.all (fun x => t.r16 x.1 == x.2) && t.ccr &&& mask == flags && p t
  | _ => false

/-- Whether an instruction answers a next state with a property. -/
def ends (i : Instr) (s : State) (p : State → Bool) : Bool :=
  match exec i s with
  | .next t => p t
  | _ => false

/-- Whether a step is refused for a reason. -/
def refuses (o : Outcome) (r : Refusal) : Bool :=
  match o with
  | .refused q => q == r
  | _ => false

/-- Whether a step is stuck for a reason. -/
def faults (o : Outcome) (r : Fault) : Bool :=
  match o with
  | .fault q => q == r
  | _ => false

/-- Whether a part of an instruction runs. -/
def goes (p : Part) : Bool :=
  match p with
  | .next _ => true
  | _ => false

/-! ### Well-formedness: each check refuses a term -/

theorem test_wf_open_code : instrError .reset (.cvfe (.f1 15 (.reg 2) 6 12)) = some .opcodeUnassigned := by
  decide

theorem test_wf_rts_word : instrError .reset (.rts 15) = some .opcodeUnassigned := by decide

theorem test_wf_immediate : instrError .reset (.add (.f1 15 (.imm5 3) 6 12)) = some .opcodeUnassigned := by
  decide

theorem test_wf_slot : instrError .reset (.frame8d ⟨.lsl, false, 2, 6, 12⟩ .empty ⟨0, true, 0, true⟩)
    = some .opcodeUnassigned := by decide

theorem test_wf_one_slot : instrError .reset (.frame8d ⟨.add, false, 2, 6, 12⟩ .empty ⟨0, true, 0, true⟩)
    = some .opcodeUnassigned := by decide

theorem test_wf_format : instrError .reset (.addsub (.f7 15 2 12 ⟨0, false, false, 0⟩))
    = some .formatNotPrinted := by decide

theorem test_wf_slot_format : instrError .reset
    (.frame8a ⟨.fas, false, 2, 6, 12⟩ ⟨.lsl, .reg 2, 6, 12⟩ 0 ⟨0, 0, 0, false, true⟩)
    = some .formatNotPrinted := by decide

theorem test_wf_unused_source : instrError .reset (.abs (.f1 15 (.reg 2) 6 12)) = some .nonzeroCell := by
  decide

theorem test_wf_unused_first : instrError .reset (.clr (.f1 15 (.reg 2) 0 12)) = some .nonzeroCell := by
  decide

theorem test_wf_unused_destination : instrError .reset (.tst (.f1 15 (.reg 2) 0 12))
    = some .nonzeroCell := by decide

theorem test_wf_wide_immediate : instrError .reset (.add (.f2 15 0x12345678 6 12))
    = some .nonzeroCell := by decide

theorem test_wf_scaling : instrError .reset (.and (.f8 .op1 true (.reg 2) 6 12 (.d ⟨0, true, 0, true⟩)))
    = some .scalingNotOffered := by decide

theorem test_wf_odd_first : instrError .reset (.addl (.f1 15 (.reg 3) 6 12)) = some .oddRegister := by
  decide

theorem test_wf_odd_second : instrError .reset (.addl (.f1 15 (.reg 2) 7 12)) = some .oddRegister := by
  decide

theorem test_wf_odd_destination : instrError .reset (.addl (.f4 (.reg 2) 13 ⟨0, 0, 0, false, true⟩))
    = some .oddRegister := by decide

theorem test_wf_odd_transfer : instrError .reset (.move (.rr 15 ⟨2, 5, true⟩)) = some .oddRegister := by
  decide

theorem test_wf_odd_immediate_transfer :
    instrError .reset (.add (.f7 15 2 12 ⟨5, true, false, 0⟩)) = some .oddRegister := by decide

theorem test_wf_mode_immediate : instrError .reset (.add (.f4 (.reg 2) 12 ⟨0, 0, 7, false, true⟩))
    = some .modeImmediate := by decide

theorem test_wf_mode_immediate_frame :
    instrError .reset (.add (.f8 .op1 false (.reg 2) 6 12 (.a 0 ⟨0, 0, 7, false, true⟩)))
    = some .modeImmediate := by decide

theorem test_wf_move_mode : instrError .reset (.move (.mem 15 ⟨0, 0, 7, false, true⟩))
    = some .modeImmediate := by decide

theorem test_wf_frame_transfer : instrError .reset
    (.add (.f8 .op1 false (.reg 2) 6 12 (.b 0 ⟨1, 2, true⟩))) = some .oddRegister := by decide

theorem test_wf_accepts : instrError .reset (.add (.f1 15 (.reg 3) 7 13)) = none := by decide

theorem test_wf_accepts_open : instrError openLaunch (.mpyl (.f1 15 (.reg 2) 6 12)) = none := by decide

/-! ### Decoding: words filled in from the patterns of spec/opcode_table.json and the tables of
spec/30_encoding.md -/

theorem test_decode_unused_format : decode .reset 0x00000780 0 = .error .formatUnused := by decide

/-- MODE_IMM in a word of format 4 (U19). -/
theorem test_decode_mode_immediate : decode .reset 0x13007204 0 = .error .modeImmediate := by decide

/-- Bit 15 of format 1 is printed 0. -/
theorem test_decode_nonzero : decode .reset 0x130CF884 0 = .error .nonzeroCell := by decide

theorem test_decode_b : decode .reset 0xA800B99C 0 = .ok (.b 10 (.imm 0x0017)) := by decide

theorem test_decode_bd : decode .reset 0xA800B99E 0 = .ok (.bd 10 (.imm 0x0017)) := by decide

/-- Format 3mb prints 0 in [26:18]. -/
theorem test_decode_bs_nonzero : decode .reset 0xA00401AC 0 = .error .nonzeroCell := by decide

theorem test_decode_bs : decode .reset 0xA00181AC 0 = .ok (.bs 10 (.areg 3)) := by decide

theorem test_decode_j : decode .reset 0xF891A19D 0 = .ok (.j 15 (.imm 0x1234)) := by decide

theorem test_decode_jd : decode .reset 0xF001819F 0 = .ok (.jd 15 (.areg 3)) := by decide

theorem test_decode_js : decode .reset 0xF891A1AD 0 = .ok (.js 15 (.imm 0x1234)) := by decide

theorem test_decode_doNAbs : decode .reset 0x0091A10C 0x00000005 = .ok (.doNAbs 5 0x1234) := by decide

theorem test_decode_doNRel : decode .reset 0x0091A10D 0x00003FFF = .ok (.doNRel 0x3FFF 0x1234) := by
  decide

theorem test_decode_doDAbs : decode .reset 0x6091A18E 0 = .ok (.doDAbs 12 0x1234) := by decide

theorem test_decode_doDRel : decode .reset 0x6091A18F 0 = .ok (.doDRel 12 0x1234) := by decide

theorem test_decode_doforAbs : decode .reset 0x0091A18A 0 = .ok (.doforAbs 0x1234) := by decide

theorem test_decode_doforRel : decode .reset 0x0091A18B 0 = .ok (.doforRel 0x1234) := by decide

theorem test_decode_enddo : decode .reset 0x0000019B 0 = .ok .enddo := by decide

theorem test_decode_nop : decode .reset 0x00000180 0 = .ok .nop := by decide

theorem test_decode_stop : decode .reset 0xF80001DE 0 = .ok .stop := by decide

theorem test_decode_move16Agu : decode .reset 0x1891A1ED 0 = .ok (.move16Agu 3 0x1234) := by decide

theorem test_decode_move16Pcu : decode .reset 0x1891A1EF 0 = .ok (.move16Pcu 3 0x1234) := by decide

/-- Format 2t between data registers, L = 1. -/
theorem test_decode_move_rr : decode .reset 0x0D084467 0 = .ok (.move (.rr 10 ⟨4, 8, true⟩)) := by decide

/-- Format 2t with a control register, de = 1. -/
theorem test_decode_move_rc : decode .reset 0x150F1D67 0 = .ok (.move (.rc 10 ⟨7, true, 3, true⟩)) := by
  decide

/-- Format 6t. -/
theorem test_decode_move_mem : decode .reset 0x0515AB67 0 = .ok (.move (.mem 10 ⟨5, 3, 2, true, true⟩)) := by
  decide

/-- Format 7t: `mode` = MODE_IMM and an immediate in the second word. -/
theorem test_decode_move_memImm : decode .reset 0x0515FB67 0x00001234
    = .ok (.move (.memImm 10 5 3 true true 0x1234)) := by decide

/-- ADD with Scaling beside ASL, an X and a Y transfer. -/
theorem test_decode_frame8a : decode .reset 0x130D5804 0x3390A704
    = .ok (.frame8a ⟨.add, true, 2, 6, 12⟩ ⟨.asl, .reg 6, 8, 14⟩ 1 ⟨5, 3, 2, true, true⟩) := by decide

theorem test_decode_frame8b : decode .reset 0x130D2004 0x3390A244
    = .ok (.frame8b ⟨.add, true, 2, 6, 12⟩ ⟨.asl, .reg 6, 8, 14⟩ 1 ⟨4, 8, true⟩) := by decide

theorem test_decode_frame8c : decode .reset 0x130D4004 0x33914284
    = .ok (.frame8c ⟨.add, true, 2, 6, 12⟩ ⟨.asl, .reg 6, 8, 14⟩ 10 4 8) := by decide

theorem test_decode_frame8d : decode .reset 0x130D3804 0x33900FC4
    = .ok (.frame8d ⟨.add, true, 2, 6, 12⟩ ⟨.asl, .reg 6, 8, 14⟩ ⟨7, true, 3, true⟩) := by decide

theorem test_decode_rts : decode openLaunch 0xF80001DF 0 = .ok (.rts 15) := by decide

theorem test_decode_cvfe : decode openLaunch 0x130C78CB 0 = .ok (.cvfe (.f1 15 (.reg 2) 6 12)) := by
  decide

theorem test_decode_mpf2s : decode openLaunch 0x130D78E3 0 = .ok (.mpf2s (.f1 15 (.reg 2) 6 12)) := by
  decide

theorem test_decode_mpyl : decode openLaunch 0x130C78FF 0 = .ok (.mpyl (.f1 15 (.reg 2) 6 12)) := by
  decide

theorem test_decode_abs :
    decode .reset 0x13005090 0 = .ok (.abs (.f1 10 (.reg 2) 0 12)) := by decide

theorem test_decode_absl :
    decode .reset 0x1315AB30 0 = .ok (.absl (.f4 (.reg 2) 12 ⟨5, 3, 2, true, true⟩)) := by decide

theorem test_decode_adc : decode .reset 0x6091A185 0 = .ok (.adc (.f3 0x1234 12)) := by decide

theorem test_decode_adcl :
    decode .reset 0x13094625 0 = .ok (.adcl (.f5 (.reg 2) 12 ⟨4, 8, true⟩)) := by decide

theorem test_decode_adc16l :
    decode .reset 0x130F1D08 0 = .ok (.adc16l (.f6 (.reg 2) 12 ⟨7, true, 3, true⟩)) := by decide

theorem test_decode_add :
    decode .reset 0x130F1D04 0 = .ok (.add (.f6 (.reg 2) 12 ⟨7, true, 3, true⟩)) := by decide

theorem test_decode_addl :
    decode .reset 0x130C0024 0 = .ok (.addl (.f8 .op1 false (.reg 2) 6 12 (.a 0 ⟨0, 0, 0, false, false⟩))) := by decide

theorem test_decode_addlr :
    decode .reset 0x130C50A9 0 = .ok (.addlr (.f1 10 (.reg 2) 6 12)) := by decide

theorem test_decode_addlrtr :
    decode .reset 0x1309462A 0 = .ok (.addlrtr (.f5 (.reg 2) 12 ⟨4, 8, true⟩)) := by decide

theorem test_decode_addsub :
    decode .reset 0x130C0007 0 = .ok (.addsub (.f8 .op1 false (.reg 2) 6 12 (.a 0 ⟨0, 0, 0, false, false⟩))) := by decide

theorem test_decode_addsubl :
    decode .reset 0x130C509B 0 = .ok (.addsubl (.f1 10 (.reg 2) 6 12)) := by decide

theorem test_decode_addsubx :
    decode .reset 0x1315AB20 0 = .ok (.addsubx (.f4 (.reg 2) 12 ⟨5, 3, 2, true, true⟩)) := by decide

theorem test_decode_addx :
    decode .reset 0x130C50A7 0 = .ok (.addx (.f1 10 (.reg 2) 6 12)) := by decide

theorem test_decode_ad1 :
    decode .reset 0x130F1D2F 0 = .ok (.ad1 (.f6 (.reg 2) 12 ⟨7, true, 3, true⟩)) := by decide

theorem test_decode_and :
    decode .reset 0x13115741 0x12345678 = .ok (.and (.f7 10 2 12 ⟨8, true, false, 0x12345678⟩)) := by decide

theorem test_decode_andc :
    decode .reset 0x130C0042 0 = .ok (.andc (.f8 .op1 false (.reg 2) 6 12 (.a 0 ⟨0, 0, 0, false, false⟩))) := by decide

theorem test_decode_andcl :
    decode .reset 0x1315AB52 0 = .ok (.andcl (.f4 (.reg 2) 12 ⟨5, 3, 2, true, true⟩)) := by decide

theorem test_decode_andi :
    decode .reset 0x030C5143 0x00001234 = .ok (.andi (.f2 10 0x1234 6 12)) := by decide

theorem test_decode_andl :
    decode .reset 0x130F1D51 0 = .ok (.andl (.f6 (.reg 2) 12 ⟨7, true, 3, true⟩)) := by decide

theorem test_decode_ash :
    decode .reset 0x1315AB3E 0 = .ok (.ash (.f4 (.reg 2) 12 ⟨5, 3, 2, true, true⟩)) := by decide

theorem test_decode_asl :
    decode .reset 0x13094664 0 = .ok (.asl (.f5 (.reg 2) 12 ⟨4, 8, true⟩)) := by decide

theorem test_decode_asll :
    decode .reset 0x130F1D6C 0 = .ok (.asll (.f6 (.reg 2) 12 ⟨7, true, 3, true⟩)) := by decide

theorem test_decode_aslx :
    decode .reset 0x13115765 0x12345678 = .ok (.aslx (.f7 10 2 12 ⟨8, true, false, 0x12345678⟩)) := by decide

theorem test_decode_asr :
    decode .reset 0x00000000 0x130C0014 = .ok (.asr (.f8 .op2 false (.reg 2) 6 12 (.a 0 ⟨0, 0, 0, false, false⟩))) := by decide

theorem test_decode_asrl :
    decode .reset 0x4B0D50FC 0 = .ok (.asrl (.f1 10 (.imm5 9) 6 12)) := by decide

theorem test_decode_asrle :
    decode .reset 0x00000000 0x130C00CD = .ok (.asrle (.f8 .op2 false (.reg 2) 6 12 (.d ⟨0, false, 0, false⟩))) := by decide

theorem test_decode_asrx :
    decode .reset 0x4B0946F5 0 = .ok (.asrx (.f5 (.imm5 9) 12 ⟨4, 8, true⟩)) := by decide

theorem test_decode_btst :
    decode .reset 0x4B0F1DF0 0 = .ok (.btst (.f6 (.imm5 9) 12 ⟨7, true, 3, true⟩)) := by decide

theorem test_decode_btstl :
    decode .reset 0x1311577A 0x12345678 = .ok (.btstl (.f7 10 2 12 ⟨8, true, false, 0x12345678⟩)) := by decide

theorem test_decode_clr :
    decode .reset 0x03000001 0 = .ok (.clr (.f8 .op1 false (.reg 0) 0 12 (.a 0 ⟨0, 0, 0, false, false⟩))) := by decide

theorem test_decode_clrl :
    decode .reset 0x030050A1 0 = .ok (.clrl (.f1 10 (.reg 0) 0 12)) := by decide

theorem test_decode_cmp :
    decode .reset 0x13000015 0 = .ok (.cmp (.f8 .op1 false (.reg 2) 0 12 (.a 0 ⟨0, 0, 0, false, false⟩))) := by decide

theorem test_decode_cmpe :
    decode .reset 0x130F1D2E 0 = .ok (.cmpe (.f6 (.reg 2) 12 ⟨7, true, 3, true⟩)) := by decide

theorem test_decode_cmpl :
    decode .reset 0x13115735 0x12345678 = .ok (.cmpl (.f7 10 2 12 ⟨8, true, false, 0x12345678⟩)) := by decide

theorem test_decode_cmpm : decode .reset 0x6091A196 0 = .ok (.cmpm (.f3 0x1234 12)) := by decide

theorem test_decode_cmpml :
    decode .reset 0x130050B6 0 = .ok (.cmpml (.f1 10 (.reg 2) 0 12)) := by decide

theorem test_decode_cs2 :
    decode .reset 0x130D50E6 0 = .ok (.cs2 (.f1 10 (.reg 2) 6 12)) := by decide

theorem test_decode_cvef :
    decode .reset 0x130C001D 0 = .ok (.cvef (.f8 .op1 false (.reg 2) 6 12 (.a 0 ⟨0, 0, 0, false, false⟩))) := by decide

theorem test_decode_cvfi :
    decode .reset 0x1309460E 0 = .ok (.cvfi (.f5 (.reg 2) 12 ⟨4, 8, true⟩)) := by decide

theorem test_decode_cvif :
    decode .reset 0x130F1D0F 0 = .ok (.cvif (.f6 (.reg 2) 12 ⟨7, true, 3, true⟩)) := by decide

theorem test_decode_dec :
    decode .reset 0x13115712 0x12345678 = .ok (.dec (.f7 10 2 12 ⟨8, true, false, 0x12345678⟩)) := by decide

theorem test_decode_decl :
    decode .reset 0x13000032 0 = .ok (.decl (.f8 .op1 false (.reg 2) 0 12 (.a 0 ⟨0, 0, 0, false, false⟩))) := by decide

theorem test_decode_dispfx :
    decode .reset 0x130050CE 0 = .ok (.dispfx (.f1 10 (.reg 2) 0 12)) := by decide

theorem test_decode_dispx :
    decode .reset 0x1315AB4D 0 = .ok (.dispx (.f4 (.reg 2) 12 ⟨5, 3, 2, true, true⟩)) := by decide

theorem test_decode_eor :
    decode .reset 0x13094648 0 = .ok (.eor (.f5 (.reg 2) 12 ⟨4, 8, true⟩)) := by decide

theorem test_decode_eorl :
    decode .reset 0x13094658 0 = .ok (.eorl (.f5 (.reg 2) 12 ⟨4, 8, true⟩)) := by decide

theorem test_decode_fadd :
    decode .reset 0x130F1D0A 0 = .ok (.fadd (.f6 (.reg 2) 12 ⟨7, true, 3, true⟩)) := by decide

theorem test_decode_fas :
    decode .reset 0x130C000B 0x00000080 = .ok (.fas (.f8 .op1 false (.reg 2) 6 12 (.c 0 0 0))) := by decide

theorem test_decode_fin :
    decode .reset 0x130F1D1E 0 = .ok (.fin (.f6 (.reg 2) 12 ⟨7, true, 3, true⟩)) := by decide

theorem test_decode_finr :
    decode .reset 0x1311571F 0x12345678 = .ok (.finr (.f7 10 2 12 ⟨8, true, false, 0x12345678⟩)) := by decide

theorem test_decode_fint :
    decode .reset 0x1309460D 0 = .ok (.fint (.f5 (.reg 2) 12 ⟨4, 8, true⟩)) := by decide

theorem test_decode_floor :
    decode .reset 0x130F1D0C 0 = .ok (.floor (.f6 (.reg 2) 12 ⟨7, true, 3, true⟩)) := by decide

theorem test_decode_fmpy :
    decode .reset 0x1309466F 0 = .ok (.fmpy (.f5 (.reg 2) 12 ⟨4, 8, true⟩)) := by decide

theorem test_decode_fsub :
    decode .reset 0x130F1D2D 0 = .ok (.fsub (.f6 (.reg 2) 12 ⟨7, true, 3, true⟩)) := by decide

theorem test_decode_ftr :
    decode .reset 0x13005086 0 = .ok (.ftr (.f1 10 (.reg 2) 0 12)) := by decide

theorem test_decode_ftrfl :
    decode .reset 0x1315AB09 0 = .ok (.ftrfl (.f4 (.reg 2) 12 ⟨5, 3, 2, true, true⟩)) := by decide

theorem test_decode_ftrl :
    decode .reset 0x13094626 0 = .ok (.ftrl (.f5 (.reg 2) 12 ⟨4, 8, true⟩)) := by decide

theorem test_decode_ftst :
    decode .reset 0x100F1D2C 0 = .ok (.ftst (.f6 (.reg 2) 0 ⟨7, true, 3, true⟩)) := by decide

theorem test_decode_inc :
    decode .reset 0x13115702 0x12345678 = .ok (.inc (.f7 10 2 12 ⟨8, true, false, 0x12345678⟩)) := by decide

theorem test_decode_incl :
    decode .reset 0x13000022 0 = .ok (.incl (.f8 .op1 false (.reg 2) 0 12 (.a 0 ⟨0, 0, 0, false, false⟩))) := by decide

theorem test_decode_insl :
    decode .reset 0x130C50D4 0 = .ok (.insl (.f1 10 (.reg 2) 6 12)) := by decide

theorem test_decode_lsl :
    decode .reset 0x4B15ABE1 0 = .ok (.lsl (.f4 (.imm5 9) 12 ⟨5, 3, 2, true, true⟩)) := by decide

theorem test_decode_lsll :
    decode .reset 0x4B0946E8 0 = .ok (.lsll (.f5 (.imm5 9) 12 ⟨4, 8, true⟩)) := by decide

theorem test_decode_lslx :
    decode .reset 0x4B0F1DE2 0 = .ok (.lslx (.f6 (.imm5 9) 12 ⟨7, true, 3, true⟩)) := by decide

theorem test_decode_lsr :
    decode .reset 0x13115771 0x12345678 = .ok (.lsr (.f7 10 2 12 ⟨8, true, false, 0x12345678⟩)) := by decide

theorem test_decode_lsrl :
    decode .reset 0x00000000 0x130C0018 = .ok (.lsrl (.f8 .op2 false (.reg 2) 6 12 (.a 0 ⟨0, 0, 0, false, false⟩))) := by decide

theorem test_decode_lsrx :
    decode .reset 0x130C50F2 0 = .ok (.lsrx (.f1 10 (.reg 2) 6 12)) := by decide

theorem test_decode_mac :
    decode .reset 0x00000000 0x130C0029 = .ok (.mac (.f8 .op2 false (.reg 2) 6 12 (.a 0 ⟨0, 0, 0, false, false⟩))) := by decide

theorem test_decode_macl :
    decode .reset 0x130D50FB 0 = .ok (.macl (.f1 10 (.reg 2) 6 12)) := by decide

theorem test_decode_mmacx :
    decode .reset 0x00000000 0x130C0039 = .ok (.mmacx (.f8 .op2 false (.reg 2) 6 12 (.a 0 ⟨0, 0, 0, false, false⟩))) := by decide

theorem test_decode_mac2 :
    decode .reset 0x130D50EE 0 = .ok (.mac2 (.f1 10 (.reg 2) 6 12)) := by decide

theorem test_decode_max :
    decode .reset 0x130C0017 0 = .ok (.max (.f8 .op1 false (.reg 2) 6 12 (.a 0 ⟨0, 0, 0, false, false⟩))) := by decide

theorem test_decode_maxl :
    decode .reset 0x1315AB37 0 = .ok (.maxl (.f4 (.reg 2) 12 ⟨5, 3, 2, true, true⟩)) := by decide

theorem test_decode_maxm :
    decode .reset 0x030C5119 0x00001234 = .ok (.maxm (.f2 10 0x1234 6 12)) := by decide

theorem test_decode_maxml :
    decode .reset 0x130F1D39 0 = .ok (.maxml (.f6 (.reg 2) 12 ⟨7, true, 3, true⟩)) := by decide

theorem test_decode_min :
    decode .reset 0x1315AB18 0 = .ok (.min (.f4 (.reg 2) 12 ⟨5, 3, 2, true, true⟩)) := by decide

theorem test_decode_minl :
    decode .reset 0x130C0038 0 = .ok (.minl (.f8 .op1 false (.reg 2) 6 12 (.a 0 ⟨0, 0, 0, false, false⟩))) := by decide

theorem test_decode_minm :
    decode .reset 0x130F1D1A 0 = .ok (.minm (.f6 (.reg 2) 12 ⟨7, true, 3, true⟩)) := by decide

theorem test_decode_minml :
    decode .reset 0x030C513A 0x12345678 = .ok (.minml (.f2 10 0x12345678 6 12)) := by decide

theorem test_decode_mpf :
    decode .reset 0x00000000 0x130C001D = .ok (.mpf (.f8 .op2 false (.reg 2) 6 12 (.a 0 ⟨0, 0, 0, false, false⟩))) := by decide

theorem test_decode_mpf2 :
    decode .reset 0x130D50FD 0 = .ok (.mpf2 (.f1 10 (.reg 2) 6 12)) := by decide

theorem test_decode_mpss :
    decode .reset 0x030C517E 0x00001234 = .ok (.mpss (.f2 10 0x1234 6 12)) := by decide

theorem test_decode_mpuu : decode .reset 0x6091A1FB 0 = .ok (.mpuu (.f3 0x1234 12)) := by decide

theorem test_decode_mpx :
    decode .reset 0x00000000 0x130C0016 = .ok (.mpx (.f8 .op2 false (.reg 2) 6 12 (.a 0 ⟨0, 0, 0, false, false⟩))) := by decide

theorem test_decode_mskg :
    decode .reset 0x130C50EA 0 = .ok (.mskg (.f1 10 (.reg 2) 6 12)) := by decide

theorem test_decode_mskgl :
    decode .reset 0x1315AB6B 0 = .ok (.mskgl (.f4 (.reg 2) 12 ⟨5, 3, 2, true, true⟩)) := by decide

theorem test_decode_neg :
    decode .reset 0x13094611 0 = .ok (.neg (.f5 (.reg 2) 12 ⟨4, 8, true⟩)) := by decide

theorem test_decode_negl :
    decode .reset 0x130F1D31 0 = .ok (.negl (.f6 (.reg 2) 12 ⟨7, true, 3, true⟩)) := by decide

theorem test_decode_not :
    decode .reset 0x13115749 0x12345678 = .ok (.not (.f7 10 2 12 ⟨8, true, false, 0x12345678⟩)) := by decide

theorem test_decode_notl :
    decode .reset 0x13000059 0 = .ok (.notl (.f8 .op1 false (.reg 2) 0 12 (.a 0 ⟨0, 0, 0, false, false⟩))) := by decide

theorem test_decode_or : decode .reset 0x6091A1C5 0 = .ok (.or (.f3 0x1234 12)) := by decide

theorem test_decode_orc :
    decode .reset 0x1315AB46 0 = .ok (.orc (.f4 (.reg 2) 12 ⟨5, 3, 2, true, true⟩)) := by decide

theorem test_decode_orcl :
    decode .reset 0x030C5156 0x12345678 = .ok (.orcl (.f2 10 0x12345678 6 12)) := by decide

theorem test_decode_ori :
    decode .reset 0x130F1D47 0 = .ok (.ori (.f6 (.reg 2) 12 ⟨7, true, 3, true⟩)) := by decide

theorem test_decode_orl :
    decode .reset 0x13094655 0 = .ok (.orl (.f5 (.reg 2) 12 ⟨4, 8, true⟩)) := by decide

theorem test_decode_pack :
    decode .reset 0x130C004C 0 = .ok (.pack (.f8 .op1 false (.reg 2) 6 12 (.a 0 ⟨0, 0, 0, false, false⟩))) := by decide

theorem test_decode_packl :
    decode .reset 0x130C50DC 0 = .ok (.packl (.f1 10 (.reg 2) 6 12)) := by decide

theorem test_decode_pdn :
    decode .reset 0x1315AB4F 0 = .ok (.pdn (.f4 (.reg 2) 12 ⟨5, 3, 2, true, true⟩)) := by decide

theorem test_decode_pdne :
    decode .reset 0x13094644 0 = .ok (.pdne (.f5 (.reg 2) 12 ⟨4, 8, true⟩)) := by decide

theorem test_decode_pdnl :
    decode .reset 0x130F1D5F 0 = .ok (.pdnl (.f6 (.reg 2) 12 ⟨7, true, 3, true⟩)) := by decide

theorem test_decode_pdnle :
    decode .reset 0x1311575E 0x12345678 = .ok (.pdnle (.f7 10 2 12 ⟨8, true, false, 0x12345678⟩)) := by decide

theorem test_decode_pdnx :
    decode .reset 0x1300005D 0 = .ok (.pdnx (.f8 .op1 false (.reg 2) 0 12 (.a 0 ⟨0, 0, 0, false, false⟩))) := by decide

theorem test_decode_rndl :
    decode .reset 0x130050A8 0 = .ok (.rndl (.f1 10 (.reg 2) 0 12)) := by decide

theorem test_decode_rol :
    decode .reset 0x1315AB63 0 = .ok (.rol (.f4 (.reg 2) 12 ⟨5, 3, 2, true, true⟩)) := by decide

theorem test_decode_roll :
    decode .reset 0x13094669 0 = .ok (.roll (.f5 (.reg 2) 12 ⟨4, 8, true⟩)) := by decide

theorem test_decode_ror :
    decode .reset 0x130F1D73 0 = .ok (.ror (.f6 (.reg 2) 12 ⟨7, true, 3, true⟩)) := by decide

theorem test_decode_rorl :
    decode .reset 0x13115779 0x12345678 = .ok (.rorl (.f7 10 2 12 ⟨8, true, false, 0x12345678⟩)) := by decide

theorem test_decode_sac2 :
    decode .reset 0x00000000 0x130C0036 = .ok (.sac2 (.f8 .op2 false (.reg 2) 6 12 (.a 0 ⟨0, 0, 0, false, false⟩))) := by decide

theorem test_decode_sah :
    decode .reset 0x130C50BF 0 = .ok (.sah (.f1 10 (.reg 2) 6 12)) := by decide

theorem test_decode_sbc :
    decode .reset 0x130F1D14 0 = .ok (.sbc (.f6 (.reg 2) 12 ⟨7, true, 3, true⟩)) := by decide

theorem test_decode_sbcl :
    decode .reset 0x13115734 0x12345678 = .ok (.sbcl (.f7 10 2 12 ⟨8, true, false, 0x12345678⟩)) := by decide

theorem test_decode_smb :
    decode .reset 0x13094677 0 = .ok (.smb (.f5 (.reg 2) 12 ⟨4, 8, true⟩)) := by decide

theorem test_decode_smbl :
    decode .reset 0x1315ABF7 0 = .ok (.smbl (.f4 (.reg 2) 12 ⟨5, 3, 2, true, true⟩)) := by decide

theorem test_decode_sub :
    decode .reset 0x030C5113 0x00001234 = .ok (.sub (.f2 10 0x1234 6 12)) := by decide

theorem test_decode_subl :
    decode .reset 0x1315AB33 0 = .ok (.subl (.f4 (.reg 2) 12 ⟨5, 3, 2, true, true⟩)) := by decide

theorem test_decode_sublr :
    decode .reset 0x1309463C 0 = .ok (.sublr (.f5 (.reg 2) 12 ⟨4, 8, true⟩)) := by decide

theorem test_decode_sublrtr :
    decode .reset 0x1309463D 0 = .ok (.sublrtr (.f5 (.reg 2) 12 ⟨4, 8, true⟩)) := by decide

theorem test_decode_subx :
    decode .reset 0x130F1D3B 0 = .ok (.subx (.f6 (.reg 2) 12 ⟨7, true, 3, true⟩)) := by decide

theorem test_decode_swl :
    decode .reset 0x1311575B 0x12345678 = .ok (.swl (.f7 10 2 12 ⟨8, true, false, 0x12345678⟩)) := by decide

theorem test_decode_tr :
    decode .reset 0x1300004A 0 = .ok (.tr (.f8 .op1 false (.reg 2) 0 12 (.a 0 ⟨0, 0, 0, false, false⟩))) := by decide

theorem test_decode_trl :
    decode .reset 0x1315AB5A 0 = .ok (.trl (.f4 (.reg 2) 12 ⟨5, 3, 2, true, true⟩)) := by decide

theorem test_decode_tst :
    decode .reset 0x1015AB03 0 = .ok (.tst (.f4 (.reg 2) 0 ⟨5, 3, 2, true, true⟩)) := by decide

theorem test_decode_tstl :
    decode .reset 0x10094623 0 = .ok (.tstl (.f5 (.reg 2) 0 ⟨4, 8, true⟩)) := by decide

theorem test_decode_tstx :
    decode .reset 0x100F1D2B 0 = .ok (.tstx (.f6 (.reg 2) 0 ⟨7, true, 3, true⟩)) := by decide

/-! ### One step: worked examples of spec/95_test_vectors.md, by their number -/

/-- V1. -/
theorem test_exec_abs : runs 0x09407890 0 { State.reset with ccr := 0x5F }
    [(1, 0xFFFE)]
    [(5, 0x2)] 0x1F 0x19 (fun _ => true) = true := by decide

/-- V5. -/
theorem test_exec_absl : runs 0x208078B0 0 { State.reset with ccr := 0x5F }
    [(4, 0xFFFF), (5, 0xFFFF)]
    [(2, 0x1), (3, 0x0)] 0x1F 0x19 (fun _ => true) = true := by decide

/-- V9. -/
theorem test_exec_adc : runs 0x0B0A7885 0 { State.reset with ccr := 0x5F }
    [(1, 0x7FFF), (5, 0x0)]
    [(12, 0x8000)] 0x1F 0xA (fun _ => true) = true := by decide

/-- V11. -/
theorem test_exec_adcl : runs 0x130C78A5 0 { State.reset with ccr := 0x5E }
    [(2, 0xFFFF), (3, 0x0), (6, 0x1), (7, 0x0)]
    [(12, 0x0), (13, 0x1)] 0x1F 0x10 (fun _ => true) = true := by decide

/-- V13. -/
theorem test_exec_adc16l : runs 0x130C7888 0 { State.reset with ccr := 0x5C }
    [(2, 0xFFFF), (6, 0x10), (7, 0x0)]
    [(12, 0xF), (13, 0x0)] 0x1F 0x11 (fun _ => true) = true := by decide

/-- V18. -/
theorem test_exec_add : runs 0x0B0A7884 0 { State.reset with ccr := 0x5F }
    [(1, 0x7FFF), (5, 0x1)]
    [(12, 0x8000)] 0x1F 0xA (fun _ => true) = true := by decide

/-- V22. -/
theorem test_exec_addl : runs 0x130C78A4 0 { State.reset with ccr := 0x5F }
    [(2, 0xFFFF), (3, 0x7FFF), (6, 0x1), (7, 0x0)]
    [(12, 0x0), (13, 0x8000)] 0x1F 0xA (fun _ => true) = true := by decide

/-- V29. -/
theorem test_exec_addlr : runs 0x130C78A9 0 { State.reset with ccr := 0x25F }
    [(2, 0x0), (3, 0x7FFF), (6, 0x8000), (7, 0x0)]
    [(12, 0x0), (13, 0x8000)] 0x1F 0xA (fun _ => true) = true := by decide

/-- V34. -/
theorem test_exec_addlrtr : runs 0x130C78AA 0 { State.reset with ccr := 0x25F }
    [(2, 0x8000), (3, 0x7FFF), (6, 0x0), (7, 0x0)]
    [(12, 0x8000)] 0x1F 0xA (fun _ => true) = true := by decide

/-- V35. -/
theorem test_exec_addsub : runs 0x0B0A7887 0 { State.reset with sr := 0x0, ccr := 0x5F }
    [(1, 0x3), (5, 0xA)]
    [(12, 0xD), (5, 0x7)] 0xD 0x0 (fun _ => true) = true := by decide

/-- V37. -/
theorem test_exec_addsubl : runs 0x130C789B 0 { State.reset with sr := 0x0, ccr := 0x5F }
    [(2, 0x1), (3, 0x0), (6, 0x5), (7, 0x0)]
    [(12, 0x6), (13, 0x0), (6, 0x4), (7, 0x0)] 0x9 0x0 (fun _ => true) = true := by decide

/-- V39. -/
theorem test_exec_addsubx : runs 0x130C78A0 0 { State.reset with sr := 0x0, ccr := 0x5F }
    [(2, 0x2), (3, 0x1), (6, 0x20), (7, 0x10)]
    [(12, 0x22), (13, 0x11), (6, 0x1E), (7, 0xF)] 0xF 0x0 (fun _ => true) = true := by decide

/-- V40. -/
theorem test_exec_addx : runs 0x130C78A7 0 { State.reset with ccr := 0x5F }
    [(2, 0xFFFF), (3, 0x7FFF), (6, 0x1), (7, 0x1)]
    [(12, 0x0), (13, 0x8000)] 0x1F 0xA (fun _ => true) = true := by decide

/-- V43. -/
theorem test_exec_ad1 : runs 0x0B0A78AF 0 { State.reset with ccr := 0x5F }
    [(1, 0xFFFF), (5, 0xFFFF)]
    [(12, 0xFFFF)] 0x1F 0x19 (fun _ => true) = true := by decide

/-- V45. -/
theorem test_exec_and : runs 0x0B0A78C1 0 { State.reset with ccr := 0x5F }
    [(1, 0x11), (5, 0xF0)]
    [(12, 0x10)] 0x1F 0x13 (fun _ => true) = true := by decide

/-- V47. -/
theorem test_exec_andc : runs 0x0B0A78C2 0 { State.reset with ccr := 0x5F }
    [(1, 0xFF), (5, 0x1234)]
    [(12, 0x1200)] 0x1F 0x13 (fun _ => true) = true := by decide

/-- V49. -/
theorem test_exec_andi : runs 0x0B0A78C3 0 { State.reset with ccr := 0x5F }
    [(1, 0x0), (5, 0x0)]
    [(12, 0xFFFF)] 0x1F 0x1B (fun _ => true) = true := by decide

/-- V50. -/
theorem test_exec_andcl : runs 0x130C78D2 0 { State.reset with ccr := 0x5F }
    [(2, 0xFFFF), (3, 0x0), (6, 0x5678), (7, 0x1234)]
    [(12, 0x0), (13, 0x1234)] 0x1F 0x13 (fun _ => true) = true := by decide

/-- V51. -/
theorem test_exec_andl : runs 0x130C78D1 0 { State.reset with ccr := 0x5F }
    [(2, 0xFF00), (3, 0xFF00), (6, 0x5678), (7, 0x1234)]
    [(12, 0x5600), (13, 0x1200)] 0x1F 0x13 (fun _ => true) = true := by decide

/-- V52. -/
theorem test_exec_asl : runs 0x094578E4 0 { State.reset with ccr := 0x5F }
    [(2, 0x4001)]
    [(5, 0x8002)] 0x1F 0xA (fun _ => true) = true := by decide

/-- V58. -/
theorem test_exec_asll : runs 0x8B0D78EC 0 { State.reset with ccr := 0x5F }
    [(6, 0x1), (7, 0x0)]
    [(12, 0x0), (13, 0x2)] 0x1F 0x18 (fun _ => true) = true := by decide

/-- V61. -/
theorem test_exec_asr : runs 0x094578F4 0 { State.reset with ccr := 0x5F }
    [(2, 0x8003)]
    [(5, 0xC001)] 0x1F 0x1B (fun _ => true) = true := by decide

/-- V68. -/
theorem test_exec_asrl : runs 0x8B0D78FC 0 { State.reset with ccr := 0x5F }
    [(6, 0x0), (7, 0x8000)]
    [(12, 0xC000), (13, 0xFFFF)] 0x1F 0x1A (fun _ => true) = true := by decide

/-- V74. -/
theorem test_exec_asrx : runs 0x098578F5 0 { State.reset with ccr := 0x5F }
    [(2, 0x2), (3, 0x8000)]
    [(6, 0x1), (7, 0xC000)] 0x1F 0x1B (fun _ => true) = true := by decide

/-- V76. -/
theorem test_exec_aslx : runs 0x098578E5 0 { State.reset with ccr := 0x5F }
    [(2, 0x1), (3, 0x4000)]
    [(6, 0x2), (7, 0x8000)] 0x1F 0xB (fun _ => true) = true := by decide

/-- V77. -/
theorem test_exec_ash : runs 0x130C78BE 0 { State.reset with ccr := 0x5F }
    [(2, 0x4), (3, 0x3), (6, 0x5), (7, 0x1)]
    [(12, 0x4), (13, 0x7)] 0x1F 0x10 (fun _ => true) = true := by decide

/-- V86. -/
theorem test_exec_clr : runs 0x03007881 0 { State.reset with ccr := 0x5F }
    [(12, 0xABCD)]
    [(12, 0x0)] 0x5F 0x5F (fun _ => true) = true := by decide

/-- V87. -/
theorem test_exec_clrl : runs 0x008078A1 0 { State.reset with ccr := 0x5F }
    [(2, 0xBEEF), (3, 0xDEAD)]
    [(2, 0x0), (3, 0x0)] 0x5F 0x5F (fun _ => true) = true := by decide

/-- V88. -/
theorem test_exec_cmp : runs 0x0B007895 0 { State.reset with ccr := 0x5F }
    [(1, 0x11), (12, 0x11)]
    [] 0x1F 0x15 (fun _ => true) = true := by decide

/-- V92. -/
theorem test_exec_cmpl : runs 0x118078B5 0 { State.reset with ccr := 0x5F }
    [(2, 0x2), (3, 0x0), (6, 0x1), (7, 0x0)]
    [] 0x1F 0x18 (fun _ => true) = true := by decide

/-- V94. -/
theorem test_exec_cmpm : runs 0x09407896 0 { State.reset with ccr := 0x5F }
    [(1, 0xFFFD), (5, 0x2)]
    [] 0x1F 0x1A (fun _ => true) = true := by decide

/-- V97. -/
theorem test_exec_cmpml : runs 0x118078B6 0 { State.reset with ccr := 0x5F }
    [(2, 0xFFFF), (3, 0xFFFF), (6, 0x1), (7, 0x0)]
    [] 0x1F 0x17 (fun _ => true) = true := by decide

/-- V98. -/
theorem test_exec_cmpe : runs 0x130C78AE 0 { State.reset with ccr := 0x5F }
    [(2, 0x5), (6, 0x3)]
    [(12, 0x5), (13, 0x2)] 0x5F 0x5F (fun _ => true) = true := by decide

/-- V100. -/
theorem test_exec_cs2 : runs 0x130D78E6 0 { State.reset with ac0 := 0x0, ac1 := 0x0, ccr := 0x5F }
    [(2, 0x5), (3, 0x1), (6, 0x2), (7, 0x9)]
    [(12, 0x5), (13, 0x9)] 0x1F 0x1E (fun t => t.ac0 == 0x1 && t.ac1 == 0x0) = true := by decide

/-- V103. -/
theorem test_exec_cvef : runs 0x130C789D 0 { State.reset with ccr := 0x5F }
    [(2, 0x0), (3, 0x8000), (6, 0x7FFF)]
    [(12, 0x0), (13, 0xFF80)] 0x1F 0x1B (fun _ => true) = true := by decide

/-- V121. -/
theorem test_exec_cvfi : runs 0x1180788E 0 { State.reset with ccr := 0x5F }
    [(2, 0x1), (3, 0xCF00)]
    [(6, 0x0), (7, 0x8000)] 0x1F 0xB (fun _ => true) = true := by decide

/-- V127. -/
theorem test_exec_cvif : runs 0x1180788F 0 { State.reset with ccr := 0x5F }
    [(2, 0x0), (3, 0x8000)]
    [(6, 0x0), (7, 0xCF00)] 0x1F 0x1B (fun _ => true) = true := by decide

/-- V133. -/
theorem test_exec_dec : runs 0x09407892 0 { State.reset with ccr := 0x5F }
    [(1, 0x0)]
    [(5, 0xFFFF)] 0x1F 0x19 (fun _ => true) = true := by decide

/-- V136. -/
theorem test_exec_decl : runs 0x118078B2 0 { State.reset with ccr := 0x5F }
    [(2, 0x0), (3, 0x8000)]
    [(6, 0xFFFF), (7, 0x7FFF)] 0x1F 0x3 (fun _ => true) = true := by decide

/-- V138. -/
theorem test_exec_dispfx : runs 0x0B0078CE 0 { State.reset with ccr := 0x5F }
    [(1, 0x80FF)]
    [(12, 0xFF00), (13, 0x8000)] 0x1F 0x9 (fun _ => true) = true := by decide

/-- V140. -/
theorem test_exec_dispx : runs 0x0B0078CD 0 { State.reset with ccr := 0x5F }
    [(1, 0x80FF)]
    [(12, 0xFFFF), (13, 0xFF80)] 0x1F 0x19 (fun _ => true) = true := by decide

/-- V142. -/
theorem test_exec_eor : runs 0x0B0A78C8 0 { State.reset with ccr := 0x5F }
    [(1, 0x11), (5, 0x11)]
    [(12, 0x0)] 0x1F 0x17 (fun _ => true) = true := by decide

/-- V143. -/
theorem test_exec_eorl : runs 0x130C78D8 0 { State.reset with ccr := 0x5F }
    [(2, 0x0), (3, 0xFFFF), (6, 0xF0F), (7, 0xF0F)]
    [(12, 0xF0F), (13, 0xF0F0)] 0x1F 0x1B (fun _ => true) = true := by decide

/-- V144. -/
theorem test_exec_fadd : runs 0x130C788A 0 { State.reset with ccr := 0x5F }
    [(2, 0x0), (3, 0x3F80), (6, 0x0), (7, 0x4000)]
    [(12, 0x0), (13, 0x4040)] 0x1F 0x11 (fun _ => true) = true := by decide

/-- V148. -/
theorem test_exec_fsub : runs 0x130C78AD 0 { State.reset with ccr := 0x5F }
    [(2, 0x0), (3, 0x4040), (6, 0x0), (7, 0x3F80)]
    [(12, 0x0), (13, 0xC000)] 0x1F 0x19 (fun _ => true) = true := by decide

/-- V150. -/
theorem test_exec_fmpy : runs 0x130C78EF 0 { State.reset with ccr := 0x5F }
    [(2, 0x0), (3, 0xBF00), (6, 0x0), (7, 0x3F00)]
    [(12, 0x0), (13, 0xBE80)] 0x1F 0x19 (fun _ => true) = true := by decide

/-- V152. -/
theorem test_exec_fas : runs 0x130C788B 0 { State.reset with sr := 0x0, ccr := 0x5F }
    [(2, 0x0), (3, 0x3F80), (6, 0x0), (7, 0x4040)]
    [(12, 0x0), (13, 0x4080), (6, 0x0), (7, 0x4000)] 0x1F 0x11 (fun _ => true) = true := by decide

/-- V156. -/
theorem test_exec_fin : runs 0x1180789E 0 { State.reset with ccr := 0x5F }
    [(2, 0x0), (3, 0xC080)]
    [(6, 0x0), (7, 0xBE80)] 0x1F 0x19 (fun _ => true) = true := by decide

/-- V157. -/
theorem test_exec_finr : runs 0x1180789F 0 { State.reset with ccr := 0x5F }
    [(2, 0x0), (3, 0x4080)]
    [(6, 0x0), (7, 0x3F00)] 0x1F 0x19 (fun _ => true) = true := by decide

/-- V162. -/
theorem test_exec_fint : runs 0x1180788D 0 { State.reset with ccr := 0x5F }
    [(2, 0x0), (3, 0xC020)]
    [(6, 0x0), (7, 0xC000)] 0x1F 0x19 (fun _ => true) = true := by decide

/-- V166. -/
theorem test_exec_floor : runs 0x1180788C 0 { State.reset with ccr := 0x5F }
    [(2, 0x0), (3, 0xBFA0)]
    [(6, 0x0), (7, 0xC000)] 0x1F 0x19 (fun _ => true) = true := by decide

/-- V171. -/
theorem test_exec_ftr : runs 0x01007886 0 { State.reset with ccr := 0x5F }
    [(0, 0x8001)]
    [(4, 0x8001), (5, 0xFFFF)] 0x1F 0x1B (fun _ => true) = true := by decide

/-- V174. -/
theorem test_exec_ftrfl : runs 0x01007889 0 { State.reset with ccr := 0x5F }
    [(0, 0x1234)]
    [(4, 0x0), (5, 0x1234)] 0x1F 0x13 (fun _ => true) = true := by decide

/-- V180. -/
theorem test_exec_ftrl : runs 0x010078A6 0 { State.reset with ccr := 0x25F }
    [(0, 0x8000), (1, 0x7FFF)]
    [(4, 0x8000)] 0x1F 0xA (fun _ => true) = true := by decide

/-- V183. -/
theorem test_exec_ftst : runs 0x000078AC 0 { State.reset with ccr := 0x5F }
    [(0, 0x0), (1, 0xFF80)]
    [] 0x1F 0x1B (fun _ => true) = true := by decide

/-- V189. -/
theorem test_exec_inc : runs 0x09407882 0 { State.reset with ccr := 0x5F }
    [(1, 0x7FFF)]
    [(5, 0x8000)] 0x1F 0xB (fun _ => true) = true := by decide

/-- V191. -/
theorem test_exec_incl : runs 0x118078A2 0 { State.reset with ccr := 0x5F }
    [(2, 0xFFFF), (3, 0x7FFF)]
    [(6, 0x0), (7, 0x8000)] 0x1F 0xB (fun _ => true) = true := by decide

/-- V193. -/
theorem test_exec_insl : runs 0x130C78D4 0 { State.reset with ccr := 0x5F }
    [(2, 0xAAAA), (3, 0xAAAA), (6, 0x0), (7, 0xFFFF), (12, 0x5678), (13, 0x1234)]
    [(12, 0xAAAA), (13, 0x1234)] 0x1F 0x13 (fun _ => true) = true := by decide

/-- V194. -/
theorem test_exec_lsl : runs 0x094578E1 0 { State.reset with ccr := 0x5F }
    [(2, 0x8001)]
    [(5, 0x2)] 0x1F 0x13 (fun _ => true) = true := by decide

/-- V199. -/
theorem test_exec_lsll : runs 0x8B0D78E8 0 { State.reset with ccr := 0x5F }
    [(6, 0xC001), (7, 0x0)]
    [(12, 0x0), (13, 0x8002)] 0x1F 0xB (fun _ => true) = true := by decide

/-- V201. -/
theorem test_exec_lslx : runs 0x098578E2 0 { State.reset with ccr := 0x5F }
    [(2, 0x4000), (3, 0x8001)]
    [(6, 0x8000), (7, 0x2)] 0x1F 0x3 (fun _ => true) = true := by decide

/-- V202. -/
theorem test_exec_lsr : runs 0x094578F1 0 { State.reset with ccr := 0x5F }
    [(2, 0x8001)]
    [(5, 0x4000)] 0x1F 0xB (fun _ => true) = true := by decide

/-- V206. -/
theorem test_exec_lsrl : runs 0x8B0D78F8 0 { State.reset with ccr := 0x5F }
    [(6, 0x0), (7, 0x8001)]
    [(12, 0x4000), (13, 0x0)] 0x1F 0x1B (fun _ => true) = true := by decide

/-- V208. -/
theorem test_exec_lsrx : runs 0x0B0D78F2 0 { State.reset with ccr := 0x5F }
    [(6, 0x2), (7, 0x1)]
    [(12, 0x1), (13, 0x0)] 0x1F 0x1A (fun _ => true) = true := by decide

/-- V209. -/
theorem test_exec_mac : runs 0x130D78E9 0 { State.reset with ac1 := 0x0, ac0 := 0xA, ccr := 0x5F }
    [(2, 0x3), (6, 0xFFFE)]
    [(12, 0xA), (13, 0x0), (14, 0x0), (15, 0x0)] 0x1F 0x11 (fun t => t.ac1 == 0x0 && t.ac0 == 0x4) = true := by decide

/-- V214. -/
theorem test_exec_macl : runs 0x130D78FB 0 { State.reset with ac1 := 0x0, ac0 := 0x5, ccr := 0x5F }
    [(2, 0x0), (3, 0x8000), (6, 0x0), (7, 0x8000)]
    [(12, 0x5), (13, 0x0), (14, 0x0), (15, 0x0)] 0x1F 0x0 (fun t => t.ac1 == 0x40000000 && t.ac0 == 0x5) = true := by decide

/-- V216. -/
theorem test_exec_mmacx : runs 0x130D78F9 0 { State.reset with ac1 := 0x0, ac0 := 0x0, ccr := 0x5F }
    [(2, 0x340), (3, 0x240), (6, 0x520), (7, 0x420)]
    [(12, 0x0), (13, 0x2000)] 0x1F 0x14 (fun t => t.ac1 == 0x17 && t.ac0 == 0x2) = true := by decide

/-- V217. -/
theorem test_exec_mac2 : runs 0x130D78EE 0 { State.reset with ac1 := 0x1, ac0 := 0xFFFFFFFF, ccr := 0x5F }
    [(2, 0x3), (3, 0x2), (6, 0x5), (7, 0x4)]
    [(12, 0xFFFF), (13, 0xFFFF), (14, 0x1), (15, 0x0)] 0x1F 0x10 (fun t => t.ac1 == 0x9 && t.ac0 == 0xE) = true := by decide

/-- V218. -/
theorem test_exec_max : runs 0x0B0A7897 0 { State.reset with ccr := 0x5F }
    [(1, 0x5), (5, 0xFFFF)]
    [(12, 0x5)] 0x1F 0x13 (fun _ => true) = true := by decide

/-- V221. -/
theorem test_exec_maxm : runs 0x0B0A7899 0 { State.reset with ccr := 0x5F }
    [(1, 0xFFF9), (5, 0x3)]
    [(12, 0xFFF9)] 0x1F 0x1B (fun _ => true) = true := by decide

/-- V224. -/
theorem test_exec_min : runs 0x0B0A7898 0 { State.reset with ccr := 0x5F }
    [(1, 0x8000), (5, 0x7FFF)]
    [(12, 0x8000)] 0x1F 0xB (fun _ => true) = true := by decide

/-- V227. -/
theorem test_exec_minm : runs 0x0B0A789A 0 { State.reset with ccr := 0x5F }
    [(1, 0x3), (5, 0xFFFD)]
    [(12, 0xFFFD)] 0x1F 0x1A (fun _ => true) = true := by decide

/-- V229. -/
theorem test_exec_maxl : runs 0x130C78B7 0 { State.reset with ccr := 0x5F }
    [(2, 0x11), (3, 0x0), (6, 0x10), (7, 0x0)]
    [(12, 0x11), (13, 0x0)] 0x1F 0x13 (fun _ => true) = true := by decide

/-- V230. -/
theorem test_exec_maxml : runs 0x130C78B9 0 { State.reset with ccr := 0x5F }
    [(2, 0x0), (3, 0x8000), (6, 0xFFFF), (7, 0x7FFF)]
    [(12, 0x0), (13, 0x8000)] 0x1F 0xB (fun _ => true) = true := by decide

/-- V231. -/
theorem test_exec_minl : runs 0x130C78B8 0 { State.reset with ccr := 0x5F }
    [(2, 0xF), (3, 0x0), (6, 0x10), (7, 0x0)]
    [(12, 0xF), (13, 0x0)] 0x1F 0x13 (fun _ => true) = true := by decide

/-- V232. -/
theorem test_exec_minml : runs 0x130C78BA 0 { State.reset with ccr := 0x5F }
    [(2, 0x1), (3, 0x0), (6, 0xFFFE), (7, 0xFFFF)]
    [(12, 0x1), (13, 0x0)] 0x1F 0x13 (fun _ => true) = true := by decide

/-- V234. -/
theorem test_exec_mpf : runs 0x130C78FD 0 { State.reset with ccr := 0x5F }
    [(2, 0x8000), (6, 0x8000)]
    [(12, 0x0), (13, 0x8000)] 0x1F 0xB (fun _ => true) = true := by decide

/-- V237. -/
theorem test_exec_mpf2 : runs 0x130D78FD 0 { State.reset with ccr := 0x5F }
    [(2, 0x2000), (3, 0x4000), (6, 0x4000), (7, 0x4000)]
    [(12, 0x1000), (13, 0x2000)] 0x1F 0x10 (fun _ => true) = true := by decide

/-- V241. -/
theorem test_exec_mpss : runs 0x130C78FE 0 { State.reset with ccr := 0x5F }
    [(2, 0xA), (6, 0xFFFD)]
    [(12, 0xFFE2), (13, 0xFFFF)] 0x1F 0x1B (fun _ => true) = true := by decide

/-- V244. -/
theorem test_exec_mpuu : runs 0x130C78FB 0 { State.reset with ccr := 0x5F }
    [(2, 0xFFFF), (6, 0xFFFF)]
    [(12, 0x1), (13, 0xFFFE)] 0x1F 0x1B (fun _ => true) = true := by decide

/-- V247. -/
theorem test_exec_mpx : runs 0x130C78F6 0 { State.reset with ccr := 0x5F }
    [(2, 0x2000), (3, 0x4000), (6, 0x4000), (7, 0x2000)]
    [(12, 0xE800), (13, 0x2000)] 0x1F 0x11 (fun _ => true) = true := by decide

/-- V253. -/
theorem test_exec_mskg : runs 0x5B0B78EA 0 { State.reset with ccr := 0x5F }
    [(5, 0x0)]
    [(12, 0x7FF)] 0x5F 0x5F (fun _ => true) = true := by decide

/-- V260. -/
theorem test_exec_mskgl : runs 0x8B0D78EB 0 { State.reset with ccr := 0x5F }
    [(6, 0x0), (7, 0x0)]
    [(12, 0xFFFF), (13, 0x1)] 0x5F 0x5F (fun _ => true) = true := by decide

/-- V263. -/
theorem test_exec_neg : runs 0x09407891 0 { State.reset with ccr := 0x5F }
    [(1, 0x1)]
    [(5, 0xFFFF)] 0x1F 0x19 (fun _ => true) = true := by decide

/-- V266. -/
theorem test_exec_negl : runs 0x118078B1 0 { State.reset with ccr := 0x5F }
    [(2, 0x5), (3, 0x0)]
    [(6, 0xFFFB), (7, 0xFFFF)] 0x1F 0x19 (fun _ => true) = true := by decide

/-- V268. -/
theorem test_exec_not : runs 0x094078C9 0 { State.reset with ccr := 0x5F }
    [(1, 0xFF)]
    [(5, 0xFF00)] 0x1F 0x1B (fun _ => true) = true := by decide

/-- V271. -/
theorem test_exec_notl : runs 0x118078D9 0 { State.reset with ccr := 0x5F }
    [(2, 0xFFFF), (3, 0x7FFF)]
    [(6, 0x0), (7, 0x8000)] 0x1F 0xB (fun _ => true) = true := by decide

/-- V272. -/
theorem test_exec_or : runs 0x0B0A78C5 0 { State.reset with ccr := 0x5F }
    [(1, 0xF0), (5, 0xF00)]
    [(12, 0xFF0)] 0x1F 0x13 (fun _ => true) = true := by decide

/-- V274. -/
theorem test_exec_orc : runs 0x0B0A78C6 0 { State.reset with ccr := 0x5F }
    [(1, 0x11), (5, 0xFFF0)]
    [(12, 0x1F)] 0x1F 0x13 (fun _ => true) = true := by decide

/-- V277. -/
theorem test_exec_ori : runs 0x0B0A78C7 0 { State.reset with ccr := 0x5F }
    [(1, 0x0), (5, 0x0)]
    [(12, 0xFFFF)] 0x1F 0x1B (fun _ => true) = true := by decide

/-- V278. -/
theorem test_exec_orl : runs 0x130C78D5 0 { State.reset with ccr := 0x5F }
    [(2, 0x0), (3, 0x1234), (6, 0x5678), (7, 0x0)]
    [(12, 0x5678), (13, 0x1234)] 0x1F 0x13 (fun _ => true) = true := by decide

/-- V279. -/
theorem test_exec_orcl : runs 0x130C78D6 0 { State.reset with ccr := 0x5F }
    [(2, 0x1), (3, 0x0), (6, 0x0), (7, 0xFFFF)]
    [(12, 0xFFFF), (13, 0x0)] 0x1F 0x13 (fun _ => true) = true := by decide

/-- V281. -/
theorem test_exec_pack : runs 0x0B0A78CC 0 { State.reset with ccr := 0x5F }
    [(1, 0xAB12), (5, 0xCD34)]
    [(12, 0xCDAB)] 0x1F 0x1B (fun _ => true) = true := by decide

/-- V283. -/
theorem test_exec_packl : runs 0x130C78DC 0 { State.reset with ccr := 0x5F }
    [(2, 0xAAAA), (3, 0x1111), (6, 0xBBBB), (7, 0x2222)]
    [(12, 0x1111), (13, 0x2222)] 0x1F 0x13 (fun _ => true) = true := by decide

/-- V284. -/
theorem test_exec_pdn : runs 0x094078CF 0 { State.reset with ccr := 0x5F }
    [(1, 0x123)]
    [(5, 0x6)] 0x1F 0x1B (fun _ => true) = true := by decide

/-- V290. -/
theorem test_exec_pdne : runs 0x088078C4 0 { State.reset with ccr := 0x5F }
    [(1, 0x123), (2, 0x5555), (3, 0xAAAA)]
    [(2, 0x5555), (3, 0x6)] 0x1F 0x1B (fun _ => true) = true := by decide

/-- V294. -/
theorem test_exec_pdnl : runs 0x114078DF 0 { State.reset with ccr := 0x5F }
    [(2, 0x2345), (3, 0x1)]
    [(5, 0xE)] 0x1F 0x1B (fun _ => true) = true := by decide

/-- V298. -/
theorem test_exec_pdnle : runs 0x008078DE 0 { State.reset with ccr := 0x5F }
    [(0, 0x2345), (1, 0x1), (2, 0x1234), (3, 0xFFFF)]
    [(2, 0x1234), (3, 0xE)] 0x1F 0x1B (fun _ => true) = true := by decide

/-- V300. -/
theorem test_exec_pdnx : runs 0x114078DD 0 { State.reset with ccr := 0x5F }
    [(2, 0x12), (3, 0x123)]
    [(5, 0x6)] 0x1F 0x1B (fun _ => true) = true := by decide

/-- V308. -/
theorem test_exec_rndl : runs 0x118078A8 0 { State.reset with ccr := 0x5F }
    [(2, 0xC000), (3, 0x7FFF)]
    [(6, 0x0), (7, 0x8000)] 0x1F 0xA (fun _ => true) = true := by decide

/-- V311. -/
theorem test_exec_rol : runs 0x0B0078E3 0 { State.reset with ccr := 0x5E }
    [(1, 0x8001)]
    [(12, 0x2)] 0x1F 0x13 (fun _ => true) = true := by decide

/-- V314. -/
theorem test_exec_roll : runs 0x030078E9 0 { State.reset with ccr := 0x5F }
    [(0, 0x0), (1, 0x8000)]
    [(12, 0x1), (13, 0x0)] 0x1F 0x13 (fun _ => true) = true := by decide

/-- V316. -/
theorem test_exec_ror : runs 0x0B0078F3 0 { State.reset with ccr := 0x5F }
    [(1, 0x2)]
    [(12, 0x8001)] 0x1F 0xA (fun _ => true) = true := by decide

/-- V317. -/
theorem test_exec_rorl : runs 0x030078F9 0 { State.reset with ccr := 0x5F }
    [(0, 0x3), (1, 0x0)]
    [(12, 0x1), (13, 0x8000)] 0x1F 0xB (fun _ => true) = true := by decide

/-- V320. -/
theorem test_exec_sah : runs 0x130C78BF 0 { State.reset with ccr := 0x5F }
    [(2, 0x2), (3, 0x1), (6, 0x1), (7, 0xFFFF)]
    [(12, 0x0), (13, 0xFFFF)] 0x1F 0x1C (fun _ => true) = true := by decide

/-- V321. -/
theorem test_exec_sbc : runs 0x0B0A7894 0 { State.reset with ccr := 0x5E }
    [(1, 0x11), (5, 0x20)]
    [(12, 0xE)] 0x1F 0x11 (fun _ => true) = true := by decide

/-- V325. -/
theorem test_exec_sbcl : runs 0x231078B4 0 { State.reset with ccr := 0x5E }
    [(4, 0x0), (5, 0x0), (8, 0x1), (9, 0x0)]
    [(12, 0x0), (13, 0x0)] 0x1F 0x15 (fun _ => true) = true := by decide

/-- V327. -/
theorem test_exec_smb : runs 0x08A8AE77 0 { State.reset with ccr := 0x5F }
    [(1, 0xF00F)]
    [(2, 0x8)] 0x1F 0x1B (fun _ => true) = true := by decide

/-- V330. -/
theorem test_exec_smbl : runs 0x00A8AEF7 0 { State.reset with ccr := 0x5F }
    [(0, 0x1), (1, 0xFFFF)]
    [(2, 0x11)] 0x1F 0x1B (fun _ => true) = true := by decide

/-- V332. -/
theorem test_exec_sub : runs 0x0B0A7893 0 { State.reset with ccr := 0x5F }
    [(1, 0x11), (5, 0x20)]
    [(12, 0xF)] 0x1F 0x11 (fun _ => true) = true := by decide

/-- V337. -/
theorem test_exec_subl : runs 0x130C78B3 0 { State.reset with ccr := 0x5F }
    [(2, 0x1), (3, 0x0), (6, 0x0), (7, 0x8000)]
    [(12, 0xFFFF), (13, 0x7FFF)] 0x1F 0x3 (fun _ => true) = true := by decide

/-- V343. -/
theorem test_exec_sublr : runs 0x130C78BC 0 { State.reset with ccr := 0x5F }
    [(2, 0x1), (3, 0x0), (6, 0x0), (7, 0x8000)]
    [(12, 0x0), (13, 0x8000)] 0x1F 0xB (fun _ => true) = true := by decide

/-- V345. -/
theorem test_exec_sublrtr : runs 0x130C78BD 0 { State.reset with ccr := 0x5F }
    [(2, 0x4000), (3, 0x0), (6, 0x0), (7, 0x2)]
    [(12, 0x2)] 0x1F 0x11 (fun _ => true) = true := by decide

/-- V347. -/
theorem test_exec_subx : runs 0x130C78BB 0 { State.reset with ccr := 0x5F }
    [(2, 0x1), (3, 0x1), (6, 0x0), (7, 0x8000)]
    [(12, 0xFFFF), (13, 0x7FFF)] 0x1F 0x3 (fun _ => true) = true := by decide

/-- V351. -/
theorem test_exec_swl : runs 0x008078DB 0 { State.reset with ccr := 0x5F }
    [(0, 0x8000), (1, 0x0)]
    [(2, 0x0), (3, 0x8000)] 0x1F 0xB (fun _ => true) = true := by decide

/-- V352. -/
theorem test_exec_tst : runs 0x60007883 0 { State.reset with ccr := 0x5F }
    [(12, 0xC000)]
    [] 0x1F 0x1B (fun _ => true) = true := by decide

/-- V355. -/
theorem test_exec_tstl : runs 0x600078A3 0 { State.reset with ccr := 0x5F }
    [(12, 0x0), (13, 0x0)]
    [] 0x1F 0x17 (fun _ => true) = true := by decide

/-- V359. -/
theorem test_exec_tstx : runs 0x600078AB 0 { State.reset with ccr := 0x5F }
    [(12, 0x0), (13, 0xC000)]
    [] 0x1F 0x1A (fun _ => true) = true := by decide

/-! ### One step: program flow, transfers and the operations without a vector -/

/-- The example of R260. -/
theorem test_exec_b : ends (.b 15 (.imm 0x17)) { State.reset with pc := 0x0100 }
    (fun t => t.pc == 0x0117) = true := by decide

/-- The target counts from the BD itself and waits for one instruction. -/
theorem test_exec_bd : ends (.bd 15 (.imm 0xFFFF)) { State.reset with pc := 0x0100 }
    (fun t => t.pc == 0x0101 && t.delay == some 0x00FF) = true := by decide

/-- The example of R262: SS[0] = 0x0021, SP = 1. -/
theorem test_exec_bs : ends (.bs 15 (.imm 0x10)) { State.reset with pc := 0x0020 }
    (fun t => t.pc == 0x0030 && t.ss[0] == 0x0021 && t.sp == 1) = true := by decide

theorem test_exec_j : ends (.j 15 (.areg 3)) { State.reset with a := Vector.replicate 8 0x1234 }
    (fun t => t.pc == 0x1234) = true := by decide

theorem test_exec_jd : ends (.jd 15 (.imm 0x1234)) State.reset
    (fun t => t.pc == 1 && t.delay == some 0x1234) = true := by decide

/-- The stack wraps (U11). -/
theorem test_exec_js : ends (.js 15 (.imm 0x1234)) { State.reset with sp := 15, pc := 7 }
    (fun t => t.pc == 0x1234 && t.ss[15] == 8 && t.sp == 0) = true := by decide

/-- The example of R480. -/
theorem test_exec_rts :
    ends (.rts 15) { State.reset with sp := 1, ss := (Vector.replicate 16 0).set 0 0x0021 }
    (fun t => t.pc == 0x0021 && t.sp == 0) = true := by decide

theorem test_exec_doNAbs : ends (.doNAbs 5 0x0020) { State.reset with pc := 0x10, la := 7, lc := 9 }
    (fun t => t.pc == 0x12 && t.ss[0] == 0x12 && t.sp == 1 && t.csl[0] == 7 && t.csh[0] == 9
      && t.cp == 1 && t.la == 0x20 && t.lc == 0x4005) = true := by decide

theorem test_exec_doNRel : ends (.doNRel 5 0x0003) { State.reset with pc := 0x10 }
    (fun t => t.pc == 0x12 && t.la == 0x13 && t.lc == 0x4005) = true := by decide

theorem test_exec_doDAbs :
    ends (.doDAbs 4 0x0020) (withRegs { State.reset with pc := 0x10 } [(4, 0xC003)])
    (fun t => t.pc == 0x11 && t.ss[0] == 0x11 && t.la == 0x20 && t.lc == 0x4003) = true := by decide

theorem test_exec_doDRel :
    ends (.doDRel 4 0xFFFF) (withRegs { State.reset with pc := 0x10 } [(4, 1)])
    (fun t => t.pc == 0x11 && t.la == 0x0F && t.lc == 0x4001) = true := by decide

theorem test_exec_do_zero :
    refuses (exec (.doDAbs 4 0x0020) (withRegs State.reset [(4, 0xC000)])) .loopCountZero = true := by
  decide

theorem test_exec_doforAbs : ends (.doforAbs 0x0020) { State.reset with pc := 0x10 }
    (fun t => t.pc == 0x11 && t.ss[0] == 0x11 && t.la == 0x20 && t.lc == 0x8000) = true := by decide

theorem test_exec_doforRel : ends (.doforRel 0x0002) { State.reset with pc := 0x10 }
    (fun t => t.pc == 0x11 && t.la == 0x12 && t.lc == 0x8000) = true := by decide

/-- A loop whose last instruction is two words long (word 0x00000102, format 2). -/
theorem test_exec_enddo : ends .enddo
    { State.reset with
      la := 0x20, lc := 0x8000, sp := 1, cp := 1, csl := Vector.replicate 8 3
      csh := Vector.replicate 8 0x4002, pmem := Memory.writeWord [] 0x20 0x00000102 }
    (fun t => t.pc == 0x22 && t.sp == 0 && t.cp == 0 && t.la == 3 && t.lc == 0x4002) = true := by decide

/-- The example of R487. -/
theorem test_exec_stop : ends .stop { State.reset with pc := 0x30 }
    (fun t => t.pc == 0x31 && t.dcsr == 0x0008) = true := by decide

theorem test_exec_nop : ends .nop { State.reset with pc := 0xFFFF } (fun t => t.pc == 0) = true := by
  decide

theorem test_exec_nop_slot : ends .nop { State.reset with delay := some 0x1234 }
    (fun t => t.pc == 0x1234 && t.delay == none) = true := by decide

theorem test_exec_move : ends (.move (.rr 15 ⟨4, 8, true⟩)) (withRegs State.reset [(4, 1), (5, 2)])
    (fun t => t.r32 8 == 0x00020001 && t.pc == 1) = true := by decide

/-- A store, then the word is in data memory; the address register moves on by one word (R72). -/
theorem test_exec_move_store : ends (.move (.mem 15 ⟨2, 3, 1, false, false⟩))
    (withRegs { State.reset with a := Vector.replicate 8 0x0100 } [(4, 0x5678), (5, 0x1234)])
    (fun t => t.data 0x0100 == 0x12345678 && t.a[3] == 0x0101 && t.a[2] == 0x0100) = true := by decide

theorem test_exec_move16Agu : ends (.move16Agu 3 0x1234) State.reset
    (fun t => t.a[3] == 0x1234 && t.a[2] == 0) = true := by decide

theorem test_exec_move16Pcu : ends (.move16Pcu 0 0x0015) State.reset (fun t => t.ccr == 0x0015)
    = true := by decide

theorem test_exec_tr : ends (.tr (.f4 (.reg 2) 12 ⟨0, 0, 0, false, true⟩))
    (withRegs State.reset [(2, 0x1234)]) (fun t => t.r16 12 == 0x1234) = true := by decide

theorem test_exec_trl : ends (.trl (.f1 15 (.reg 2) 0 12)) (withRegs State.reset [(2, 1), (3, 2)])
    (fun t => t.r32 12 == 0x00020001) = true := by decide

/-- Bit 0xF3 mod 16 of D. -/
theorem test_exec_btst : ends (.btst (.f1 15 (.reg 2) 0 12))
    (withRegs State.reset [(2, 0xF3), (12, 0x0008)]) (fun t => t.ccr == 0x0001) = true := by decide

theorem test_exec_btstl : ends (.btstl (.f1 15 (.reg 2) 0 12))
    (withRegs { State.reset with ccr := 0x1F } [(2, 31), (13, 0x7FFF)]) (fun t => t.ccr == 0x001E)
    = true := by decide

/-- While E = 0 the shift is in place on S2. -/
theorem test_exec_asrle :
    ends (.asrle (.f8 .op2 false (.reg 2) 6 12 (.d ⟨0, true, 0, true⟩)))
    (withRegs State.reset [(2, 1), (6, 0x0002), (7, 0x8000), (12, 5)])
    (fun t => t.r32 6 == 0xC0000001 && t.r16 12 == 5) = true := by decide

/-- SAC2 completes, whatever its lost operation gives. -/
theorem test_exec_sac2 : ends (.sac2 (.f1 15 (.reg 2) 6 12)) State.reset (fun t => t.pc == 1)
    = true := by decide

/-- CVFE of 1.0 with DD = 0: mantissa 0x40000000, exponent 1 in S2. -/
theorem test_exec_cvfe : ends (.cvfe (.f1 15 (.reg 2) 6 12)) (withRegs State.reset [(3, 0x3F80)])
    (fun t => t.r32 12 == 0x40000000 && t.r16 6 == 1) = true := by decide

/-- The example of R422: 0.5 * 0.25 crosswise. -/
theorem test_exec_mpf2s : ends (.mpf2s (.f1 15 (.reg 2) 6 12))
    (withRegs State.reset [(3, 0x4000), (6, 0x2000)]) (fun t => t.r32 12 == 0x10000000) = true := by
  decide

/-- V250. -/
theorem test_exec_mpyl : ends (.mpyl (.f1 15 (.reg 2) 6 12))
    (withRegs State.reset [(3, 1), (6, 0xFFFF), (7, 0xFFFF)])
    (fun t => t.r64 12 == 0xFFFFFFFFFFFF0000 && t.flagN && t.flagC && t.flagU && !t.flagZ)
    = true := by decide

/-- A pair reads the old state: ADD writes R12, which LSL shifts as it was. -/
theorem test_exec_frame8b : ends
    (.frame8b ⟨.add, false, 2, 6, 12⟩ ⟨.lsl, .imm5 1, 12, 14⟩ 0 ⟨12, 20, false⟩)
    (withRegs State.reset [(2, 1), (6, 2), (12, 0x10)])
    (fun t => t.r16 12 == 3 && t.r16 14 == 0x20 && t.r16 20 == 0x10 && t.pc == 2) = true := by decide

theorem test_exec_frame8a : ends
    (.frame8a ⟨.add, false, 2, 6, 12⟩ ⟨.lsl, .imm5 1, 4, 14⟩ 1 ⟨8, 0, 1, false, true⟩)
    (withRegs { State.reset with
      atReg := 0x8000, dmem := Memory.writeWord (Memory.writeWord [] 0 0x00050006) 0x8000 0x00070008 }
      [(2, 1), (6, 2), (4, 4)])
    (fun t => t.r16 12 == 3 && t.r16 14 == 8 && t.r32 16 == 0x00050006 && t.r32 0 == 0x00070008
      && t.a[0] == 1) = true := by decide

theorem test_exec_frame8c : ends
    (.frame8c ⟨.add, false, 2, 6, 12⟩ ⟨.lsl, .imm5 1, 4, 14⟩ 15 1 10)
    (withRegs State.reset [(2, 1), (6, 2), (4, 4)])
    (fun t => t.r16 12 == 3 && t.r16 14 == 8 && t.r32 20 == 1) = true := by decide

theorem test_exec_frame8d : ends
    (.frame8d ⟨.add, false, 2, 6, 12⟩ ⟨.smb, .reg 4, 0, 14⟩ ⟨20, true, 1, false⟩)
    (withRegs State.reset [(2, 1), (6, 2), (4, 7), (20, 0x0200)])
    (fun t => t.r16 12 == 3 && t.r16 14 == 3 && t.sr == 0x0200) = true := by decide

/-! ### Witnesses: concrete states and operands that meet the hypotheses of the obligations -/

/-- A state with values in its registers, a loaded program word and DD as given. -/
def demo (dd : Bool) : State :=
  withRegs { State.reset with
    sr := if dd then 0x0200 else 0, a := Vector.replicate 8 0x0010
    pmem := Memory.writeWord [] 0 0x00000180 } [(2, 1), (3, 0x4000), (6, 2), (12, 5), (13, 0x3F80)]

/-- Each of the eight formats, with its transfer. -/
def demoForms : List Form :=
  [.f1 15 (.reg 2) 6 12, .f2 15 0x1234 6 12, .f3 0x1234 12, .f4 (.reg 2) 12 ⟨1, 0, 0, false, true⟩,
    .f4 (.imm5 3) 12 ⟨1, 0, 1, false, false⟩, .f5 (.reg 2) 12 ⟨4, 8, true⟩,
    .f6 (.reg 2) 12 ⟨8, true, 0, true⟩, .f7 15 2 12 ⟨8, true, false, 7⟩,
    .f8 .op1 false (.reg 2) 6 12 (.a 1 ⟨1, 0, 0, false, true⟩),
    .f8 .op2 false (.reg 2) 6 12 (.b 0 ⟨4, 8, true⟩), .f8 .op2 false (.reg 2) 6 12 (.c 15 1 8),
    .f8 .op1 true (.reg 2) 6 12 (.d ⟨8, true, 6, false⟩)]

/-- The Y transfer of one of the forms reaches YRAM. -/
def demoY (dd : Bool) : State := { demo dd with atReg := 0x8000 }

/-- The hypothesis `beside s f = .next ex` of the statements about operations, for every format:
ShortSums, LongSums, AbsoluteValues, Rounding, HalfPairs, SumsAndDifferences, ShortLogic, LongLogic,
ClearsAndWidening, Compares, TestsOfOperands, SelectionWithRecord, Extrema, Shifts, HalfShifts,
RotatesAndMasks, NormalisationAndBitSums, Products, MultiplyAccumulate, PairedAccumulate,
OpenAccumulate, FloatArithmetic, ExtendedToFloat, FloatToExtended, IntegerConversions,
ReciprocalSeeds, IntegralFloats. -/
theorem witness_beside : (demoForms.all fun f => goes (beside (demoY false) f)) = true := by decide

/-- A store may stand beside an operation, and a store outside both regions stops it. -/
theorem witness_beside_outside :
    faults (exec (.add (.f4 (.reg 2) 12 ⟨1, 0, 0, false, false⟩))
      { demo false with launch := { Launch.reset with xramWords := 4 } }) (.dataOutside 0x0010)
      = true := by decide

theorem witness_AbsoluteValues : (Form.f1 15 (.reg 2) 6 12).binding.scale = false := by decide

/-- The clauses of SumsAndDifferences: DD = 0 with two destinations and with one, DD = 1. -/
theorem witness_SumsAndDifferences :
    (demo false).dd = false ∧ (demo true).dd = true
      ∧ formStop (demo false) .addsub (.f1 15 (.reg 2) 6 12) = none
      ∧ goes (beside (demo false) (.f1 15 (.reg 2) 6 12)) = true
      ∧ goes (beside (demo false) (.f1 15 (.reg 2) 6 6)) = true
      ∧ (Form.f1 15 (.reg 2) 6 12).binding.three = true ∧ isEven 12 = true := by decide

/-- The clauses of SumsAndDifferences about DD = 1 answer a next state: R12 gets the sum, R13 the
difference, and the long forms write four registers. -/
theorem witness_SumsAndDifferences_wide :
    goes (beside (demo true) (.f1 15 (.reg 2) 6 12)) = true
      ∧ ends (.addsub (.f1 15 (.reg 2) 6 12)) (demo true) (fun t => t.r16 12 == 3 && t.r16 13 == 1) = true
      ∧ ends (.addsubl (.f1 15 (.reg 2) 6 12)) (demo true)
        (fun t => t.r32 12 == 0xC0000001 && t.r32 14 == 0x40000003) = true
      ∧ ends (.addsubx (.f1 15 (.reg 2) 6 12)) (demo true)
        (fun t => t.r32 12 == 0xC0000001 && t.r32 14 == 0x40000003) = true := by decide

theorem witness_LongLogic : formStop (demo false) .insl (.f4 (.reg 2) 12 ⟨1, 0, 0, false, true⟩) = none := by
  decide

/-- The clauses of FloatArithmetic: DD = 1, DD = 0 with two destinations, DD = 0 with one. -/
theorem witness_FloatArithmetic :
    (demo true).dd = true ∧ (demo false).dd = false
      ∧ (Form.f1 15 (.reg 2) 6 12).binding.dst ≠ (Form.f1 15 (.reg 2) 6 12).binding.snd
      ∧ (Form.f1 15 (.reg 2) 6 6).binding.dst = (Form.f1 15 (.reg 2) 6 6).binding.snd := by decide

/-- 1.0 + 2.0 = 3.0, 1.0 - 2.0 = -1.0, 1.0 * 2.0 = 2.0. -/
theorem witness_FloatRounding :
    floatValue 0x3F800000 + floatValue 0x40000000 = floatValue 0x40400000
      ∧ floatValue 0x3F800000 - floatValue 0x40000000 = floatValue 0xBF800000
      ∧ floatValue 0x3F800000 * floatValue 0x40000000 = floatValue 0x40000000 * 2 ^ 150 := by decide

theorem witness_FloatRounding_normal :
    isNormalFloat 0x3F800000 ∧ isNormalFloat 0x40000000 ∧ isNormalFloat 0x40400000
      ∧ isNormalFloat 0xBF800000 := by
  unfold isNormalFloat; decide

/-- The two ends of the range in which FloatRounding gives the nearest normal number, reached by a
product: just below `2^-126`, which binary32 rounds up to it, and the greatest product below the
overflow. -/
theorem witness_FloatRounding_range :
    (2 ^ 24 - 1) * 2 ^ 150 ≤ |floatValue 0x3F7FFFFF * floatValue 0x00800000|
      ∧ |floatValue 0x3F7FFFFF * floatValue 0x00800000| < 2 ^ 24 * 2 ^ 150
      ∧ |floatValue 0x7F7FFFFF * floatValue 0x3F800000| < (2 ^ 25 - 1) * 2 ^ 253 * 2 ^ 150
      ∧ fop32 .mul 0x3F7FFFFF 0x00800000 = 0x00800000
      ∧ fop32 .mul 0x7F7FFFFF 0x3F800000 = 0x7F7FFFFF := by decide

theorem witness_FloatToExtended :
    formStop (demo false) .cvfe (.f1 15 (.reg 2) 6 12) = none ∧ (demo false).dd = false
      ∧ (demo true).dd = true := by decide

/-- The operands of the clauses of IntegerConversions about CVIF: 0, and the two ends of the exact
range. -/
theorem witness_IntegerConversions :
    ([(0 : Long), 1, 0x01000000, 0xFF000000].all fun x => decide (x.toInt.natAbs ≤ 2 ^ 24)) = true := by
  decide

/-- The result of one operation on an operand. -/
def one (i : Form → Instr) (x : Long) : Option (Long × Bool) :=
  match exec (i (.f1 15 (.reg 2) 0 12))
      (withRegs State.reset [(2, x.extractLsb' 0 16), (3, x.extractLsb' 16 16)]) with
  | .next t => some (t.r32 12, t.flagV)
  | _ => none

/-- A float of exponent field `e`, whose fraction is 0 or not. -/
def shape (x : Long) (e : Nat) (whole : Bool) : Bool :=
  (x.extractLsb' 23 8).toNat == e && (x.extractLsb' 0 23 == 0) == whole

/-- Each clause of ReciprocalSeeds about FIN, at the boundaries of its range; a fraction other than 0
leaves that of the result open. -/
theorem witness_ReciprocalSeeds_fin :
    (one .fin 0x00800000).map Prod.fst = some 0x7E800000
      ∧ (one .fin 0x7E800000).map Prod.fst = some 0x00800000
      ∧ (one .fin 0xBF800000).map Prod.fst = some 0xBF800000
      ∧ shape 0x00800001 1 false = true ∧ shape 0x7E000001 252 false = true
      ∧ shape 0xFF800000 255 true = true ∧ (0x80000000 : Long).extractLsb' 0 31 = 0 := by decide

/-- V of FIN and FINR for a zero, QNaN, another NaN of each sign and a denormal of each sign; FIN of
minus infinity is minus zero. -/
theorem witness_ReciprocalSeeds_v :
    one .fin 0xFF800000 = some (0x80000000, false)
      ∧ ([0x80000000, 0x7FFFFFFF, 0x7F800001, 0xFF800001, 0x00000001, 0x80000001] : List Long).map
          (fun x => (finV x, finrV x))
        = [(true, true), (true, true), (false, false), (false, false), (false, false), (false, true)] := by decide

/-- Each clause of ReciprocalSeeds about FINR: an even exponent with and without fraction, odd ones,
the two ends of the range, infinity, a negative number. -/
theorem witness_ReciprocalSeeds_finr :
    (one .finr 0x3F800000).map Prod.fst = some 0x3F800000 ∧ one .finr 0x7F800000 = some (0, false)
      ∧ shape 0x40800001 129 false = true ∧ shape 0x40000000 128 true = true
      ∧ shape 0x00800000 1 true = true ∧ shape 0x7F000000 254 true = true
      ∧ shape 0x80800000 1 true = true ∧ (0x80800000 : Long).msb = true := by decide

/-- Each clause of IntegralFloats: 2.5 and -2.5 with a fraction, exponents 149 and 150, infinities and
a NaN, and both zeros. -/
theorem witness_IntegralFloats :
    (one .fint 0x40200000).map Prod.fst = some 0x40000000
      ∧ (one .floor 0xC0200000).map Prod.fst = some 0xC0400000
      ∧ (one .fint 0x4AFFFFFF).map Prod.fst = some 0x4B000000
      ∧ (one .floor 0x4B000001).map Prod.fst = some 0x4B000001
      ∧ one .fint 0xFF800000 = some (0xFF800000, true) ∧ one .floor 0xFF800000 = some (0xFF800000, true)
      ∧ one .fint 0x7F800001 = some (0x7F800001, true)
      ∧ one .floor 0x7F800001 = some (0x7F800001, true)
      ∧ (0x00000000 : Long).extractLsb' 0 31 = 0 ∧ (0x80000000 : Long).extractLsb' 0 31 = 0 := by decide

/-- FINT and FLOOR of either zero are a zero, whose sign is open (R325, R326, U15). -/
theorem test_exec_integral_of_zero (g h : Nat → Nat → Nat) :
    (toIntegral .fint g 0x00000000).extractLsb' 0 31 = 0
      ∧ (toIntegral .floor h 0x80000000).extractLsb' 0 31 = 0 := by
  have zero : ∀ b : Bool, (packFloat b 0 0).extractLsb' 0 31 = 0 := by decide
  exact ⟨zero _, zero _⟩

theorem witness_StepRunsDecoded :
    (demo false).running = true ∧ (demo false).fetchable = true
      ∧ decode (demo false).launch ((demo false).fetch 0) ((demo false).fetch 1) = .ok .nop := by decide

/-- A stopped state, a program memory without the first word, and one without the second. -/
theorem witness_WhereNoStepIsTaken :
    faults (step { State.reset with dcsr := 0x0008 }) .halted = true
      ∧ faults (step { State.reset with launch := { Launch.reset with pramWords := 0 } })
        (.fetchOutside 0) = true
      ∧ faults (step { State.reset with
          pc := 3, launch := { Launch.reset with pramWords := 4 }
          pmem := Memory.writeWord [] 3 0x00000102 }) (.fetchOutside 4) = true := by decide

/-- A word of the unused format is a refused step; the one-word instructions with a stray bit. -/
theorem witness_ReservedWordsAreRefused :
    refuses (step { State.reset with pmem := Memory.writeWord [] 0 0x00000780 })
        (.reserved .formatUnused) = true
      ∧ decode .reset 0x00000980 0 = .error .nonzeroCell
      ∧ decode .reset 0x0000099B 0 = .error .nonzeroCell
      ∧ decode .reset 0x700001DE 0 = .error .nonzeroCell := by decide

/-- The clauses of ReservedWordsAreRefused about words, one word each under a launch that gives no open
code: the opcode maps. -/
theorem witness_ReservedWords_opcodes :
    ([(0x000078CB, 0), (0x000078D0, 0), (0x00000053, 0x20), (0x000003D7, 0), (0x00000004, 0x20),
      (0x00000004, 0x2F), (0x00000004, 0x1F), (0x00000064, 0), (0x00017884, 0), (0x00000284, 0),
      (0x000004C4, 0), (0x00000684, 0), (0x00007967, 0), (0x000001E7, 0), (0x00000767, 0)] :
      List (Long × Long)).all (fun w => (decode .reset w.1 w.2).toOption.isNone) = true := by decide

/-- The cells printed 0, and the clauses about accepted words: a format that is not printed, M = 1, an
odd operand, an odd transfer, MODE_IMM, a wide immediate for a short operand. -/
theorem witness_ReservedWords_cells :
    ([(0x0000F884, 0), (0x00008104, 0), (0x0800010C, 1), (0x0000010C, 0x4000), (0x0800018A, 0),
      (0x0004019C, 0), (0x20000467, 0), (0x00400467, 0), (0x08000267, 0), (0x00007267, 0x10000),
      (0x00000004, 0x140), (0x00000804, 0x80), (0x00000004, 0x480), (0x00000004, 0x80C0),
      (0x00000707, 0), (0x00010041, 0), (0x084C78A4, 0), (0x00030604, 0), (0x00007204, 0),
      (0x00007904, 0x10000)] :
      List (Long × Long)).all (fun w => (decode .reset w.1 w.2).toOption.isNone) = true := by decide

/-- For DecodeUndoesEncode and LengthFromFirstWord: two launches without collisions, the first with
no open code, and instructions of one and of two words. -/
theorem witness_DecodeUndoesEncode : Launch.reset.ok = true ∧ openLaunch.ok = true := by decide

theorem witness_WellFormed :
    WellFormed .reset (.add (.f1 15 (.reg 3) 7 13)) ∧ WellFormed openLaunch (.rts 15)
      ∧ WellFormed .reset (.addl (.f2 15 7 6 12))
      ∧ WellFormed openLaunch (.frame8d ⟨.add, true, 2, 6, 12⟩ ⟨.mpyl, .reg 2, 6, 12⟩ ⟨0, true, 0, true⟩)
      ∧ WellFormed .reset (.move (.memImm 15 1 0 false true 3)) := by
  unfold WellFormed; decide

theorem witness_LengthFromFirstWord :
    isTwoWords .reset 0x00000180 = false ∧ isTwoWords .reset 0x0515FB67 = true
      ∧ (encode .reset (.add (.f1 15 (.reg 3) 7 13))).isSome = true
      ∧ (encode .reset (.addl (.f2 15 7 6 12))).isSome = true
      ∧ (commit (demo false) {}).loopActive = false := by decide

theorem witness_StepKeepsTheInvariant :
    ((demo false).wf && (demo false).launch.ok) = true
      ∧ (match step (demo false) with | .next _ => true | _ => false) = true := by decide

/-- For OnlyTheseChange: NOP and a STOP that ends the run. -/
theorem witness_OnlyTheseChange :
    ends .nop (demo false) (fun _ => true) = true
      ∧ (match step { State.reset with pmem := Memory.writeWord [] 0 0xF80001DE } with
        | .next t => !t.running
        | _ => false) = true := by decide

/-- For DelaySlot: a slot, a taken BD, and a flow instruction in a slot. -/
theorem witness_DelaySlot :
    ends .nop { State.reset with delay := some 7 } (fun t => t.pc == 7) = true
      ∧ ends (.bd 15 (.imm 7)) State.reset (fun t => t.delay != none) = true
      ∧ refuses (exec .stop { State.reset with delay := some 7 }) .flowInDelaySlot = true := by decide

/-- The clauses of LoopEnd: no active loop, an endless one, counts 2, 1 and 0. -/
theorem witness_LoopEnd :
    ends .nop { State.reset with la := 0 } (fun t => t.pc == 1) = true
      ∧ ends .nop { State.reset with lc := 0x8000, la := 0 } (fun t => t.pc == 0 && t.lc == 0x8000) = true
      ∧ ends .nop { State.reset with lc := 0x4002 } (fun t => t.pc == 0 && t.lc == 0x4001) = true
      ∧ ends .nop { State.reset with lc := 0x4001 } (fun t => t.pc == 1 && t.sp == 15 && t.cp == 7) = true
      ∧ ends .nop { State.reset with lc := 0x4000 } (fun t => t.pc == 1 && t.lc == 0) = true := by decide

/-- For NestingRestores: a last address behind the loop instruction, absolute and relative. -/
theorem witness_NestingRestores :
    (demo false).delay = none ∧ ((demo false).r16 2).extractLsb' 0 14 ≠ 0 ∧ (demo false).pc ≠ 0x20
      ∧ (demo false).pc ≠ (demo false).pc + 0x20
      ∧ ([Instr.doNAbs 1 0x20, .doNRel 1 0x20, .doDAbs 2 0x20, .doDRel 2 0x20, .doforAbs 0x20,
          .doforRel 0x20].all fun i => ends i (demo false) fun t => t.la == 0x20 && t.cp == 1) = true := by
  decide

/-- The clauses of EnddoAndStop: LA at the last program word and behind it, STOP inside a loop and as its
last instruction. -/
theorem witness_EnddoAndStop :
    let l := { Launch.reset with pramWords := 4 }
    ends .enddo { State.reset with la := 3, launch := l } (fun t => t.pc == 5) = true
      ∧ l.pramWords ≤ (4 : Half).toNat
      ∧ ends .stop { State.reset with lc := 0x4002, la := 9 } (fun t => t.pc == 1 && t.lc == 0x4002) = true
      ∧ ends .stop { State.reset with lc := 0x4002 } (fun t => t.pc == 1 && t.lc == 0x4002) = true := by
  decide

/-- For Branches, JumpsAndReturn, LoopsOpen, EnddoAndStop and NestingRestores: no delayed transfer is
pending; both ends of the count of LoopsOpen and a last address behind the loop instruction. -/
theorem witness_flow : State.reset.delay = none ∧ State.reset.la.toNat < State.reset.launch.pramWords
    ∧ ends (.doNAbs 1 0x20) State.reset (fun t => t.lc == 0x4001) = true
    ∧ ends (.doNAbs 0x3FFF 0x20) State.reset (fun t => t.lc == 0x7FFF) = true
    ∧ ends (.doDAbs 2 0x20) (demo false) (fun t => t.lc == 0x4001) = true
    ∧ refuses (exec (.doNAbs 0 0x20) State.reset) .loopCountZero = true
    ∧ refuses (exec (.doDRel 4 0x20) (demo false)) .loopCountZero = true
    ∧ State.reset.pc ≠ 0x20 := by decide

/-- For RegisterMoves and ControlRegisterMoves: the transfers beside an operation, an immediate in each
form of format 7, PC and the top entries read by a transfer, and a table entry of the other group. -/
theorem witness_transfers :
    ends (.add (.f5 (.reg 2) 12 ⟨6, 8, false⟩)) (demo false) (fun t => t.r16 8 == 2 && t.r16 12 == 6)
        = true
      ∧ ends (.add (.f7 15 2 12 ⟨8, false, false, 0x12345678⟩)) (demo false)
        (fun t => t.r16 8 == 0x5678 && t.r16 9 == 0) = true
      ∧ ends (.add (.f7 15 2 12 ⟨8, true, false, 0x12345678⟩)) (demo false)
        (fun t => t.r32 8 == 0x12345678) = true
      ∧ ends (.add (.f7 15 2 12 ⟨1, true, true, 0x12345678⟩)) (demo false) (fun t => t.sr == 0x5678) = true
      ∧ ends (.add (.f7 15 2 12 ⟨6, true, true, 0x12345678⟩)) (demo false)
        (fun t => t.ac0 == 0x12345678) = true
      ∧ ends (.add (.f6 (.reg 2) 12 ⟨8, true, 8, true⟩)) { demo false with pc := 7 }
        (fun t => t.r16 8 == 7) = true
      ∧ ends (.add (.f6 (.reg 2) 12 ⟨8, true, 9, true⟩))
        { demo false with sp := 15, ss := (Vector.replicate 16 0).set 15 9 } (fun t => t.r16 8 == 9) = true
      ∧ ({ State.reset with launch := { Launch.reset with rc := Vector.replicate 64 (some .ccr) } }).rcAt
        false 0 = none := by decide

/-- The clauses of ControlRegisterMoves: CCR, AC0 with an even register, A0 and LA by MOVE #16. -/
theorem witness_ControlRegisterMoves :
    State.reset.rcAt true 0 = some .ccr ∧ isLongReg .ccr = false ∧ isProtected .ccr = false
      ∧ State.reset.rcAt true 6 = some .ac0 ∧ isLongReg .ac0 = true ∧ isEven 4 = true
      ∧ State.reset.rcAt false 0 = some (.a 0) ∧ isProtected (.a 0) = false := by decide

/-- The clauses of RefusedControlTransfers: an unassigned number, the protected registers, an
accumulator beside an odd register. -/
theorem witness_RefusedControlTransfers :
    State.reset.rcAt true 31 = none ∧ State.reset.rcAt false 17 = none
      ∧ State.reset.rcAt true 8 = some .pc ∧ State.reset.rcAt true 12 = some .dcsr
      ∧ State.reset.rcAt true 9 = some .ss ∧ State.reset.rcAt true 10 = some .csl
      ∧ State.reset.rcAt true 11 = some .csh ∧ State.reset.rcAt true 7 = some .ac1
      ∧ (3 : RegNo).getLsbD 0 = true := by decide

theorem witness_AddressModes : State.reset.launch.ok = true ∧ State.reset.m[0] = State.reset.launch.neutralM := by
  decide

/-- The clauses of MemoryMoves: the first and the last address of a region, and the one behind it. -/
theorem witness_MemoryMoves :
    let s := { State.reset with launch := { Launch.reset with xramWords := 4, yramBase := 8, yramWords := 1 } }
    s.inX 0 = true ∧ s.inX 3 = true ∧ s.inX 4 = false ∧ s.inX 8 = true ∧ s.inX 9 = false
      ∧ s.inY 7 = false ∧ s.inY 8 = true ∧ s.inY 9 = false := by decide

/-- The clauses of MemoryMoves about the Y transfer: it loads RL[0] beside either first transfer, and
outside YRAM the core is stuck. -/
theorem witness_MemoryMoves_y :
    let s := { demoY false with dmem := Memory.writeWord [] 0x8000 0x00070008 }
    let stuck := fun p : Part => match p with
      | .fault (.dataOutside a) => some a
      | _ => none
    ends (.add (.f8 .op1 false (.reg 2) 6 12 (.a 1 ⟨1, 0, 0, false, true⟩))) s
        (fun t => t.r32 0 == 0x00070008) = true
      ∧ ends (.add (.f8 .op1 false (.reg 2) 6 12 (.b 1 ⟨6, 8, false⟩))) s
        (fun t => t.r32 0 == 0x00070008 && t.r16 8 == 2) = true
      ∧ stuck (frameTransfer (demo false) (.a 1 ⟨1, 0, 0, false, true⟩)) = some 0
      ∧ stuck (frameTransfer { demo false with launch := { Launch.reset with xramWords := 0 } }
        (.a 1 ⟨1, 0, 0, false, true⟩)) = some 0x0010 := by decide

/-- For MemoryFrame: an instruction that stores and one that does not, and a state in canonical form. -/
theorem witness_MemoryFrame :
    storeAddress (demo false) (.move (.mem 15 ⟨1, 0, 0, false, false⟩)) = some 0x0010
      ∧ ends (.move (.mem 15 ⟨1, 0, 0, false, false⟩)) (demo false) (fun t => t.data 0x0010 == 0x40000001)
        = true
      ∧ storeAddress (demo false) .nop = none ∧ (demo false).wf = true := by decide

/-- For RegisterWrites, ControlRegisterWrites and FlagWrites. -/
theorem witness_writes :
    Effect.regVals { regs := [(3, 7)] } 3 = [7] ∧ isProtected .sp = false
      ∧ Effect.ctrlVals { flags := [{ c := some true }] } .ccr = [] := by decide

/-- For CompetingWrites: two values for a register, an accumulator, an address register, SP, CCR and
each flag. -/
theorem witness_CompetingWrites :
    Effect.regVals { regs := [(3, 7), (3, 8)] } 3 ≠ []
      ∧ Effect.ctrlVals { ctrl := [(.ac0, 7), (.ac0, 8)] } .ac0 ≠ []
      ∧ Effect.ctrlVals { ctrl := [(.ac1, 7), (.ac1, 8)] } .ac1 ≠ []
      ∧ Effect.ctrlVals { ctrl := [(.a 1, 7), (.a 1, 8)] } (.a 1) ≠ []
      ∧ Effect.ctrlVals { ctrl := [(.sp, 7), (.sp, 8)] } .sp ≠ [] ∧ isProtected .sp = false
      ∧ Effect.ctrlVals { ctrl := [(.ccr, 7), (.ccr, 8)] } .ccr ≠ []
      ∧ ([resultFlags (0 : Half) (some true) (some true), { e := some false }] : List FlagUpd).all
        (fun f => (f.c != none && f.v != none && f.z != none && f.n != none && f.u != none) || f.e != none)
        = true := by decide

/-- For AluFrame: an ADD beside a load, from its hypotheses to a next state, outside a loop. -/
theorem witness_AluFrame :
    partsOf (.add (.f4 (.reg 2) 12 ⟨1, 0, 0, false, true⟩))
        = some (.add, .f4 (.reg 2) 12 ⟨1, 0, 0, false, true⟩)
      ∧ goes (beside (demo false) (.f4 (.reg 2) 12 ⟨1, 0, 0, false, true⟩)) = true
      ∧ ends (.add (.f4 (.reg 2) 12 ⟨1, 0, 0, false, true⟩)) (demo false) (fun t => t.r16 12 == 6)
        = true
      ∧ (demo false).loopActive = false := by decide

/-- For MoveFrame: each form of MOVE answers a next state. -/
theorem witness_MoveFrame :
    ends (.move (.rr 15 ⟨2, 8, true⟩)) (demo false) (fun t => t.r16 8 == 1) = true
      ∧ ends (.move (.rc 15 ⟨2, true, 0, false⟩)) (demo false) (fun t => t.ccr == 1) = true
      ∧ ends (.move (.rc 15 ⟨2, true, 1, true⟩)) (demo true) (fun t => t.r16 2 == 0x0200) = true
      ∧ ends (.move (.mem 15 ⟨1, 0, 0, false, true⟩)) (demo false) (fun t => t.r16 2 == 0) = true
      ∧ ends (.move (.mem 15 ⟨1, 0, 1, false, false⟩)) (demo false)
        (fun t => t.a[0] == 0x0011 && t.data 0x0010 == 0x40000001) = true
      ∧ ends (.move (.memImm 15 6 0 false false 4)) (demo false) (fun t => t.data 0x0014 == 0x3F800005)
        = true
      ∧ ends (.move16Agu 0 7) (demo false) (fun t => t.a[0] == 7) = true
      ∧ ends (.move16Pcu 1 7) (demo false) (fun t => t.sr == 7) = true
      ∧ (demo false).loopActive = false := by decide

/-- For PairsOfOperations and SlotWritesAsAlone: parts that run, in each frame. -/
theorem witness_PairsOfOperations :
    goes (part1 (demoY false) ⟨.add, false, 2, 6, 12⟩) = true
      ∧ goes (part2 (demoY false) ⟨.lsl, .reg 2, 6, 14⟩) = true
      ∧ ([Frame.a 1 ⟨1, 0, 0, false, true⟩, .b 1 ⟨4, 8, true⟩, .c 15 1 8, .d ⟨8, true, 0, true⟩].all
        fun fr => goes (frameTransfer (demoY false) fr)
          && frameStop (demoY false) .add .lsl fr == none) = true := by decide

/-- The clauses of RefusedCombinations about frames with two operations, and ADDSUB with an odd
destination in the formats 1 and 8. -/
theorem witness_RefusedCombinations_frames :
    refuses (exec (.frame8d ⟨.insl, false, 2, 6, 12⟩ ⟨.asrle, .reg 2, 6, 14⟩ ⟨8, true, 0, true⟩) (demo false))
        .asrleWithInsl = true
      ∧ refuses (exec (.frame8c ⟨.insl, false, 2, 6, 12⟩ ⟨.lsl, .reg 2, 6, 14⟩ 15 1 8) (demo false))
        .inslWithRegisterSource = true
      ∧ refuses (exec (.frame8b ⟨.addsubl, false, 2, 6, 12⟩ ⟨.lsl, .reg 2, 6, 14⟩ 1 ⟨4, 8, true⟩) (demo false))
        .yTransferWithDD0 = true
      ∧ refuses (exec (.addsub (.f1 15 (.reg 2) 6 13)) (demo true)) .oddRegister = true
      ∧ refuses (exec (.addsub (.f8 .op1 false (.reg 2) 6 13 (.d ⟨8, true, 0, true⟩))) (demo true))
        .oddRegister = true
      ∧ refuses (exec (.frame8d ⟨.addsub, false, 2, 6, 13⟩ ⟨.lsl, .reg 2, 6, 14⟩ ⟨8, true, 0, true⟩) (demo true))
        .oddRegister = true := by decide

/-- The clauses of RefusedCombinations. -/
theorem witness_RefusedCombinations :
    readsRegister (.b 0 ⟨4, 8, true⟩) = true ∧ usesY (.b 1 ⟨4, 8, true⟩) = true ∧ (demo false).dd = false
      ∧ (demo true).dd = true ∧ (13 : RegNo).getLsbD 0 = true
      ∧ refuses (exec (.frame8a ⟨.insl, false, 2, 6, 12⟩ ⟨.asrle, .reg 2, 6, 14⟩ 0 ⟨1, 0, 0, false, true⟩)
        (demo false)) .asrleWithInsl = true := by decide

/-! ### The whole -/

/-- The interface runs a placed instruction as the first one after reset. -/
theorem test_withFetchWord :
    (match step (State.reset.withFetchWord 32 0xF80001DE) with | .next t => t.dcsr == 0x0008 | _ => false)
      = true := by decide

theorem test_decodeTableWord : decodeTableWord 64 0x12345678130C7904 = none
    ∧ decodeTableWord 64 0x00001234130C7904 = some (.add (.f2 15 0x1234 6 12)) := by decide

end Sys2Proof.Tests
end

/-! The step of the core (spec/00_scope.md R4, R9): it is the meaning of the decoded instruction, and it
keeps the canonical form of both memories, program memory and the launch parameters. Every instruction
that completes makes its own writes and then moves the program counter; the writes are of six kinds
(`OwnWrites`), so the invariant is checked once per kind and once for `advance`, not once per
instruction. -/

namespace Sys2Proof.Machine

/-! ### What a completed instruction does -/

/-- The states that an instruction's own writes lead to, before the program counter moves: the writes of
its parts, or what program flow does to the stacks, the loop registers and DCSR. -/
inductive OwnWrites (s : State) : State → Prop where
  | parts (e : Effect) : OwnWrites s (commit s e)
  | call (link : Half) : OwnWrites s (s.pushSS link)
  | ret : OwnWrites s s.dropSS
  | enterLoop (len last lc : Half) : OwnWrites s (s.enterLoop len last lc)
  | leaveLoop : OwnWrites s s.dropSS.popLoop
  | setDCSR (v : Half) : OwnWrites s { s with dcsr := v }

/-- An instruction may write nothing. -/
theorem OwnWrites.refl (s : State) : OwnWrites s s := by
  have h : OwnWrites s (commit s {}) := .parts {}
  rwa [commit_empty] at h

/-- `t` is reached from `s` by an instruction's own writes and the move of the program counter
(spec/00_scope.md R9). -/
def CompletesTo (s t : State) : Prop :=
  ∃ u len ctl, OwnWrites s u ∧ t = advance len ctl u

theorem finish_completesTo {s t : State} {len : Half} {p : Part} (h : finish s len p = .next t) :
    CompletesTo s t := by
  obtain ⟨e, -, rfl⟩ := (finish_next ..).1 h
  exact ⟨_, len, .fallthrough, .parts e, rfl⟩

theorem flow_completesTo {s t u : State} {b : Bool} {len : Half} {ctl : Ctl} (hw : OwnWrites s u)
    (h : flow s b len ctl u = .next t) : CompletesTo s t := by
  obtain ⟨-, rfl⟩ := (flow_next ..).1 h
  cases b with
  | true => exact ⟨u, len, ctl, hw, rfl⟩
  | false => exact ⟨s, len, .fallthrough, .refl s, rfl⟩

/-- A DO runs exactly outside a delay slot and with a count other than 0 (R298, U10, U13). -/
theorem doLoop_next (s t : State) (len : Half) (count : BitVec 14) (last : Half) :
    doLoop s len count last = .next t ↔ s.delay = none ∧ count ≠ 0 ∧
      t = advance len .fallthrough (s.enterLoop len last (0b01#2 ++ count)) := by
  unfold doLoop
  cases s.delay with
  | some x => simp
  | none =>
    by_cases hc : count = 0
    · simp [hc]
    · simp only [hc, if_false, Host.Outcome.next.injEq, ne_eq, not_false_eq_true, true_and, eq_comm]

theorem doLoop_completesTo {s t : State} {len : Half} {count : BitVec 14} {last : Half}
    (h : doLoop s len count last = .next t) : CompletesTo s t := by
  obtain ⟨-, -, rfl⟩ := (doLoop_next ..).1 h
  exact ⟨_, len, .fallthrough, .enterLoop .., rfl⟩

theorem runForm_completesTo {s t : State} {op : Op} {alu : Alu} {f : Form}
    (h : runForm op alu f s = .next t) : CompletesTo s t := by
  obtain ⟨e, ex, -, -, rfl⟩ := runForm_inv op alu f s t h
  exact ⟨_, f.len, .fallthrough, .parts _, rfl⟩

/-- A format 8 instruction runs exactly when it combines nothing that is refused and its parts run. -/
theorem runFrame_next (s t : State) (op1 op2 : Op) (p1 p2 : Part) (fr : Frame) :
    runFrame s op1 op2 p1 p2 fr = .next t ↔
      frameStop s op1 op2 fr = none ∧ finish s 2 (frameParts s p1 p2 fr) = .next t := by
  unfold runFrame
  cases frameStop s op1 op2 fr <;> simp

theorem runPair_completesTo {s t : State} {i1 : Slot1} {i2 : Slot2} {fr : Frame}
    (h : runPair s i1 i2 fr = .next t) : CompletesTo s t :=
  finish_completesTo ((runFrame_next ..).1 h).2

theorem execMove_completesTo {s t : State} {f : MoveForm} (h : execMove f s = .next t) :
    CompletesTo s t := by
  cases f with
  | rr cc x => exact finish_completesTo h
  | rc cc x => exact finish_completesTo h
  | mem cc x => exact finish_completesTo h
  | memImm cc r a u de imm => exact finish_completesTo h

/-- Every instruction that completes makes its own writes, then moves the program counter: the ALU
instructions by their common form, each other instruction by the operation it is made of. -/
theorem exec_completesTo (i : Instr) (s t : State) (h : exec i s = .next t) : CompletesTo s t := by
  cases hp : partsOf i with
  | some p =>
    rw [exec_of_parts i p.1 p.2 s hp] at h
    exact runForm_completesTo h
  | none =>
    cases i with
    | b cc x => exact flow_completesTo (.refl s) h
    | bd cc x => exact flow_completesTo (.refl s) h
    | bs cc x => exact flow_completesTo (.call _) h
    | j cc x => exact flow_completesTo (.refl s) h
    | jd cc x => exact flow_completesTo (.refl s) h
    | js cc x => exact flow_completesTo (.call _) h
    | rts cc => exact flow_completesTo .ret h
    | stop => exact flow_completesTo (.setDCSR _) h
    | doNAbs n last => exact doLoop_completesTo h
    | doNRel n last => exact doLoop_completesTo h
    | doDAbs d last => exact doLoop_completesTo h
    | doDRel d last => exact doLoop_completesTo h
    | doforAbs last => exact flow_completesTo (.enterLoop ..) h
    | doforRel last => exact flow_completesTo (.enterLoop ..) h
    | enddo => exact flow_completesTo .leaveLoop h
    | nop => exact finish_completesTo (len := 1) (p := idle) h
    | move f => exact execMove_completesTo h
    | move16Agu d imm => exact finish_completesTo h
    | move16Pcu d imm => exact finish_completesTo h
    | frame8a i1 i2 at2 x => exact runPair_completesTo h
    | frame8b i1 i2 at2 x => exact runPair_completesTo h
    | frame8c i1 i2 cc rs rd => exact runPair_completesTo h
    | frame8d i1 i2 x => exact runPair_completesTo h
    | _ => cases hp

/-! ### The invariant -/

/-- Program memory and the launch parameters stay (spec/20_memory.md R78, spec/00_scope.md R4), and data
memory stays in canonical form. -/
structure KeepsInvariant (s t : State) : Prop where
  pmem : t.pmem = s.pmem
  launch : t.launch = s.launch
  dmem_wf : s.dmem.wf = true → t.dmem.wf = true

theorem KeepsInvariant.trans {s u t : State} (h : KeepsInvariant s u) (k : KeepsInvariant u t) :
    KeepsInvariant s t :=
  ⟨k.pmem.trans h.pmem, k.launch.trans h.launch, k.dmem_wf ∘ h.dmem_wf⟩

/-- Only the writes of an instruction's parts reach data memory; program flow reaches no memory. -/
theorem OwnWrites.keepsInvariant {s u : State} (h : OwnWrites s u) : KeepsInvariant s u := by
  cases h with
  | parts e => exact ⟨commit_pmem s e, commit_launch s e, commit_dmem_wf s e⟩
  | call link => exact ⟨rfl, rfl, id⟩
  | ret => exact ⟨rfl, rfl, id⟩
  | enterLoop len last lc => exact ⟨rfl, rfl, id⟩
  | leaveLoop => exact ⟨rfl, rfl, id⟩
  | setDCSR v => exact ⟨rfl, rfl, id⟩

/-- The move of the program counter reaches no memory. -/
theorem advance_keepsInvariant (len : Half) (ctl : Ctl) (s : State) :
    KeepsInvariant s (advance len ctl s) := by
  obtain ⟨-, -, -, -, -, -, -, -, -, -, -, -, hpmem, hdmem, hlaunch, -⟩ := advance_keeps len ctl s
  exact ⟨hpmem, hlaunch, fun h => hdmem ▸ h⟩

theorem CompletesTo.keepsInvariant {s t : State} (h : CompletesTo s t) : KeepsInvariant s t := by
  obtain ⟨u, len, ctl, hw, rfl⟩ := h
  exact hw.keepsInvariant.trans (advance_keepsInvariant len ctl u)

theorem step_keepsInvariant (s t : State) (h : step s = .next t) : KeepsInvariant s t := by
  obtain ⟨-, i, -, hx⟩ := step_next s t h
  exact (exec_completesTo i s t hx).keepsInvariant

/-- Canonical memories and accepted launch parameters carry over where the invariant is kept. -/
theorem KeepsInvariant.wf_and_ok {s t : State} (h : KeepsInvariant s t)
    (hs : (s.wf && s.launch.ok) = true) : (t.wf && t.launch.ok) = true := by
  simp only [State.wf, Bool.and_eq_true] at hs ⊢
  obtain ⟨⟨hpmem, hdmem⟩, hok⟩ := hs
  exact ⟨⟨h.pmem ▸ hpmem, h.dmem_wf hdmem⟩, h.launch ▸ hok⟩

/-! ### The obligations -/

/-- Settles O37: a step completes an instruction, whose own writes and whose move of the program counter
keep the invariant. -/
theorem stepKeepsTheInvariant : Obligations.StepKeepsTheInvariant := by
  intro s t hs h
  have hk := step_keepsInvariant s t h
  exact ⟨hk.wf_and_ok hs, hk.pmem, hk.launch⟩

/-- Settles O29: the decoded word is the current instruction, whose meaning the step is. -/
theorem stepRunsDecoded : Obligations.StepRunsDecoded := by
  intro s i hr hf hd
  have hc : s.current = .next i := (current_next s i).2 ⟨hf, hd⟩
  simp [step, hr, hc]

/-- Settles O36: the memories at reset list nothing, and its launch parameters collide
with no assigned code. -/
theorem invariantHoldsAtReset : Obligations.InvariantHoldsAtReset := by
  obtain ⟨hpmem, hdmem⟩ := reset_memory_wf
  have hok : State.reset.launch.ok = true := by decide
  unfold Obligations.InvariantHoldsAtReset State.wf
  rw [hpmem, hdmem, hok]
  rfl

end Sys2Proof.Machine

/-! How the writes of an instruction land (spec/10_state.md R20 to R46, spec/30_encoding.md R133):
`commit` described once, register by register: a data register by the values that name it, a control
register by its competing value at its width (`atWidth`), CCR bit by bit (`Effect.flagBit`). -/

namespace Sys2Proof.Machine

/-! ### Data registers after the writes -/

/-- No value is written to a register that no write names. -/
theorem Effect.regVals_eq_nil {e : Effect} {n : RegNo} (h : n ∉ e.regs.map Prod.fst) :
    e.regVals n = [] := by
  simp only [Effect.regVals, List.filterMap_eq_nil_iff]
  intro w hw
  exact if_neg fun hn => h (List.mem_map.mpr ⟨w, hw, hn⟩)

theorem commit_r16_of_not_mem {s : State} {e : Effect} {n : RegNo} (h : n ∉ e.regs.map Prod.fst) :
    (commit s e).r16 n = s.r16 n := by
  rw [commit_r16, Effect.regVals_eq_nil h, resolve_nil]

theorem commit_r16_of_single {s : State} {e : Effect} {n : RegNo} {v : Half}
    (h : e.regVals n = [v]) : (commit s e).r16 n = v := by
  rw [commit_r16, h, resolve_single]

theorem commit_regs_of_nil (s : State) {e : Effect} (h : e.regs = []) :
    (commit s e).regs = s.regs := by
  ext i hi : 1
  exact commit_r16_of_not_mem (n := BitVec.ofNatLT i hi) (by simp [h])

/-- A pair of registers holds the 32 bits whose halves are written to it (R21). -/
theorem commit_r32_of_halves {s : State} {e : Effect} {n : RegNo} {v : Long}
    (hlo : e.regVals n = [v.extractLsb' 0 16]) (hhi : e.regVals (n + 1) = [v.extractLsb' 16 16]) :
    (commit s e).r32 n = v := by
  rw [State.r32, commit_r16_of_single hlo, commit_r16_of_single hhi]
  exact BitVec.extractLsb'_append_extractLsb'

theorem commit_r32_of_write32 {s : State} {e : Effect} {n : RegNo} {v : Long}
    (h : e.regs = write32 n v) : (commit s e).r32 n = v := by
  apply commit_r32_of_halves <;> simp [Effect.regVals, h, write32]

/-- A quadruple of registers holds the 64 bits that are written to it (R22): its four numbers are
different ones modulo 32. -/
theorem commit_r64_of_write64 {s : State} {e : Effect} {n : RegNo} {w : Dbl}
    (h : e.regs = write64 n w) : (commit s e).r64 n = w := by
  have hlo : (commit s e).r32 n = w.extractLsb' 0 32 := by
    apply commit_r32_of_halves <;> simp [Effect.regVals, h, write64, write32, add_assoc]
  have hhi : (commit s e).r32 (n + 2) = w.extractLsb' 32 32 := by
    apply commit_r32_of_halves <;> simp [Effect.regVals, h, write64, write32, add_assoc]
  rw [State.r64, hlo, hhi]
  exact BitVec.extractLsb'_append_extractLsb'

/-! ### Control registers after the writes -/

/-- A value at the width of a control register: 32 bits for the accumulators, 4 and 3 for the stack
pointers SP and CP, 16 for every other one (R24, R31, R33, R36). -/
def atWidth (c : CReg) (v : Long) : Long :=
  match c with
  | .ac0 | .ac1 => v
  | .sp => 0#28 ++ v.extractLsb' 0 4
  | .cp => 0#29 ++ v.extractLsb' 0 3
  | _ => 0#16 ++ v.extractLsb' 0 16

/-- Narrowing and widening again keeps the low bits. -/
theorem setWidth_setWidth_eq_append (v : Long) {k m : Nat} (h : m + k = 32) :
    (v.setWidth k).setWidth 32 = (0#m ++ v.extractLsb' 0 k).cast h := by
  obtain rfl : m = 32 - k := by omega
  rw [BitVec.setWidth_eq_append (by omega), BitVec.setWidth_eq_extractLsb' (by omega)]

/-- A control register after the writes holds its competing value at its width; of CCR this is said where
no operation writes a flag. -/
theorem readCReg_commit {s : State} {e : Effect} {c : CReg} (hp : isProtected c = false)
    (hc : c = .ccr → e.flags = []) :
    (commit s e).readCReg c = atWidth c (e.creg s c) := by
  cases c with
  | a n =>
    simp only [State.readCReg, commit_a]
    exact setWidth_setWidth_eq_append _ rfl
  | m n =>
    simp only [State.readCReg, commit_m]
    exact setWidth_setWidth_eq_append _ rfl
  | ac0 | ac1 => rfl
  | ccr =>
    simp only [State.readCReg, commit_ccr, Effect.ccr, Effect.setFlag, hc rfl, List.filterMap_nil]
    exact setWidth_setWidth_eq_append _ rfl
  | pc | ss | csl | csh | dcsr => cases hp
  | sp | la | lc | cp | sr | atReg => exact setWidth_setWidth_eq_append _ rfl

/-- A control register is read at its width: it reads so where nothing is written. -/
theorem atWidth_readCReg (s : State) {c : CReg} (hp : isProtected c = false) :
    atWidth c (s.readCReg c) = s.readCReg c := by
  have h := readCReg_commit (s := s) (e := {}) hp fun _ => rfl
  rw [commit_empty, creg_of_none s {} c rfl] at h
  exact h.symm

/-- A control register that nothing writes reads as before: of CCR this is said where no operation writes
a flag, of the entry at the top of a stack where its pointer is not written. -/
theorem readCReg_commit_of_unwritten {s : State} {e : Effect} {c : CReg} (h : e.ctrlVals c = [])
    (hccr : c = .ccr → e.flags = []) (hss : c = .ss → e.ctrlVals .sp = [])
    (hcs : c = .csl ∨ c = .csh → e.ctrlVals .cp = []) :
    (commit s e).readCReg c = s.readCReg c := by
  have hsp (hsp : e.ctrlVals .sp = []) : (commit s e).sp = s.sp := by
    simp [creg_of_none s e .sp hsp, State.readCReg]
  have hcp (hcp : e.ctrlVals .cp = []) : (commit s e).cp = s.cp := by
    simp [creg_of_none s e .cp hcp, State.readCReg]
  cases hp : isProtected c with
  | false => rw [readCReg_commit hp hccr, creg_of_none s e c h, atWidth_readCReg s hp]
  | true =>
    cases c with
    | pc | dcsr => simp [State.readCReg]
    | ss => simp only [State.readCReg, commit_ss, hsp (hss rfl)]
    | csl | csh => simp only [State.readCReg, commit_csl, commit_csh, hcp (hcs (by simp))]
    | _ => cases hp

/-- A list of control register writes holds no value for a register that it does not name. -/
theorem Effect.ctrlVals_eq_nil {e : Effect} {c : CReg} (h : c ∉ e.ctrl.map Prod.fst) :
    e.ctrlVals c = [] := by
  simp only [Effect.ctrlVals, List.filterMap_eq_nil_iff]
  intro w hw
  exact if_neg fun hn => h (List.mem_map.mpr ⟨w, hw, hn⟩)

/-! ### CCR after the writes -/

theorem withBit_getLsbD_same (x : Half) {i : Nat} (b : Bool) (hi : i < 16) :
    (withBit x i b).getLsbD i = b := by
  cases b <;> simp [withBit, hi]

theorem withBit_getLsbD_other (x : Half) {i j : Nat} (b : Bool) (h : j ≠ i) :
    (withBit x i b).getLsbD j = x.getLsbD j := by
  have hbit : (1#16 <<< i).getLsbD j = false := by
    simp; omega
  cases b with
  | true => simp only [withBit, if_true, BitVec.getLsbD_or, hbit, Bool.or_false]
  | false =>
    simp only [withBit, Bool.false_eq_true, if_false, BitVec.getLsbD_and, BitVec.getLsbD_not, hbit,
      Bool.not_false, Bool.and_true]
    by_cases hj : j < 16
    · simp [hj]
    · simp [BitVec.getLsbD_of_ge x j (by omega)]

/-- The value that one operation gives the flag at bit `i` of CCR: C, V, Z, N, U and E at the bits 0 to 4
and 6 (R25, R26). -/
def FlagUpd.atBit (fl : FlagUpd) : Nat → Option Bool
  | 0 => fl.c
  | 1 => fl.v
  | 2 => fl.z
  | 3 => fl.n
  | 4 => fl.u
  | 6 => fl.e
  | _ => none

/-- The values that the operations give the flag at bit `i` of CCR. -/
def Effect.flagVals (e : Effect) (i : Nat) : List Bool := e.flags.filterMap fun fl => fl.atBit i

/-- The bit of CCR that a flag takes: `base` where no operation gives it a value, else the competing one
among those values and the transfers into CCR (R46). -/
def Effect.flagBit (e : Effect) (s : State) (i : Nat) (base : Bool) : Bool :=
  match e.flagVals i with
  | [] => base
  | v :: vs =>
    resolve (s.pick (64 + i)) v ((v :: vs) ++ (e.ctrlVals .ccr).map fun t => t.getLsbD i)

theorem Effect.flagBit_of_nil {e : Effect} {i : Nat} (s : State) (base : Bool)
    (h : e.flagVals i = []) : e.flagBit s i base = base := by
  rw [flagBit, h]

theorem Effect.flagBit_of_single {e : Effect} {i : Nat} {v : Bool} (s : State) (base : Bool)
    (h : e.flagVals i = [v]) (hccr : e.ctrlVals .ccr = []) : e.flagBit s i base = v := by
  simp [flagBit, h, hccr]

theorem Effect.flagBit_mem {e : Effect} {i : Nat} (s : State) (base : Bool) (h : e.flagVals i ≠ []) :
    e.flagBit s i base ∈ e.flagVals i ++ (e.ctrlVals .ccr).map fun t => t.getLsbD i := by
  unfold flagBit
  cases hv : e.flagVals i with
  | nil => exact absurd hv h
  | cons v vs => exact resolve_mem _ _ _ (by simp)

theorem setFlag_getLsbD_other (e : Effect) (s : State) {i j : Nat} (get : FlagUpd → Option Bool)
    (base : Half) (h : j ≠ i) : (e.setFlag s i get base).getLsbD j = base.getLsbD j := by
  unfold Effect.setFlag
  split
  · rfl
  · exact withBit_getLsbD_other _ _ h

theorem setFlag_getLsbD_same (e : Effect) (s : State) {i : Nat} (base : Half) (hi : i < 16) :
    (e.setFlag s i (fun fl => fl.atBit i) base).getLsbD i = e.flagBit s i (base.getLsbD i) := by
  unfold Effect.setFlag Effect.flagBit Effect.flagVals
  cases e.flags.filterMap fun fl => fl.atBit i with
  | nil => rfl
  | cons v vs => exact withBit_getLsbD_same _ _ hi

/-- CCR after the instruction, each flag by the number of its bit. -/
theorem Effect.ccr_eq (e : Effect) (s : State) :
    e.ccr s = (e.setFlag s 0 (fun fl => fl.atBit 0) <| e.setFlag s 1 (fun fl => fl.atBit 1) <|
      e.setFlag s 2 (fun fl => fl.atBit 2) <| e.setFlag s 3 (fun fl => fl.atBit 3) <|
      e.setFlag s 4 (fun fl => fl.atBit 4) <| e.setFlag s 6 (fun fl => fl.atBit 6) <|
      (e.creg s .ccr).setWidth 16) := rfl

theorem Effect.flagVals_of_no_flag (e : Effect) {i : Nat} (h : i ∉ [0, 1, 2, 3, 4, 6]) :
    e.flagVals i = [] := by
  simp only [List.mem_cons, List.not_mem_nil, or_false, not_or] at h
  simp [flagVals, FlagUpd.atBit, h]

/-- Every bit of CCR after the instruction: a transfer into CCR replaces it (R25), then the flags
(R46). -/
theorem ccr_getLsbD (e : Effect) (s : State) {i : Nat} (hi : i < 16) :
    (e.ccr s).getLsbD i = e.flagBit s i ((e.creg s .ccr).getLsbD i) := by
  have hbase : ((e.creg s .ccr).setWidth 16).getLsbD i = (e.creg s .ccr).getLsbD i := by
    simp [hi]
  by_cases hf : i ∈ [0, 1, 2, 3, 4, 6]
  · simp only [List.mem_cons, List.not_mem_nil, or_false] at hf
    obtain rfl | rfl | rfl | rfl | rfl | rfl := hf <;>
      simp (disch := omega) only [Effect.ccr_eq, setFlag_getLsbD_other, setFlag_getLsbD_same, hbase]
  · rw [Effect.flagBit_of_nil s _ (e.flagVals_of_no_flag hf), ← hbase]
    simp only [List.mem_cons, List.not_mem_nil, or_false, not_or] at hf
    simp (disch := omega) only [Effect.ccr_eq, setFlag_getLsbD_other]

/-- A bit of CCR to which no operation gives a value and no transfer is made stays. -/
theorem ccr_getLsbD_of_unwritten {e : Effect} (s : State) {i : Nat} (h : e.flagVals i = [])
    (hccr : e.ctrlVals .ccr = []) : (e.ccr s).getLsbD i = s.ccr.getLsbD i := by
  by_cases hi : i < 16
  · rw [ccr_getLsbD e s hi, Effect.flagBit_of_nil s _ h, creg_of_none s e .ccr hccr]
    simp only [State.readCReg, BitVec.getLsbD_setWidth, show i < 32 by omega, decide_true,
      Bool.true_and]
  · simp [BitVec.getLsbD_of_ge _ i (by omega : 16 ≤ i)]

/-- One operation and no transfer into CCR: a flag holds the value it is given (R45). -/
theorem ccr_getLsbD_of_one_op {e : Effect} (s : State) {fl : FlagUpd} (h : e.flags = [fl])
    (hccr : e.ctrlVals .ccr = []) {i : Nat} (hi : i < 16) :
    (e.ccr s).getLsbD i = (fl.atBit i).getD (s.ccr.getLsbD i) := by
  have hvals : e.flagVals i = (fl.atBit i).toList := by
    cases hv : fl.atBit i <;> simp [Effect.flagVals, h, hv]
  cases hv : fl.atBit i with
  | none => exact ccr_getLsbD_of_unwritten s (by simp [hvals, hv]) hccr
  | some v =>
    rw [hv] at hvals
    exact (ccr_getLsbD e s hi).trans (Effect.flagBit_of_single s _ hvals hccr)

/-- A flag that some operation gives a value takes a value that one of them gives it, or the bit of a
transfer into CCR (R46). -/
theorem ccr_getLsbD_competing (e : Effect) (s : State) {i : Nat} (hi : i < 16)
    (h : ∃ fl ∈ e.flags, fl.atBit i ≠ none) :
    (∃ fl ∈ e.flags, fl.atBit i = some ((e.ccr s).getLsbD i))
      ∨ ∃ v ∈ e.ctrlVals .ccr, v.getLsbD i = (e.ccr s).getLsbD i := by
  have hvals : e.flagVals i ≠ [] := by
    obtain ⟨fl, hfl, hat⟩ := h
    simpa [Effect.flagVals, List.filterMap_eq_nil_iff] using ⟨fl, hfl, hat⟩
  have hmem := Effect.flagBit_mem s ((e.creg s .ccr).getLsbD i) hvals
  rw [← ccr_getLsbD e s hi] at hmem
  simpa [Effect.flagVals] using hmem

/-! ### The obligations about the writes -/

/-- Settles O52: a register takes its competing value, which is the one value written, or the old one. -/
theorem registerWrites : Obligations.RegisterWrites :=
  ⟨fun _ _ _ => ⟨fun _ => commit_r16_of_single, commit_r16_of_not_mem⟩,
    fun _ _ _ _ _ => ⟨commit_r32_of_write32, commit_r64_of_write64⟩⟩

/-- Settles O53: the register that is written holds the value at its width; nothing is written to the
others, nor to the pointers of the stacks whose top entries they are. -/
theorem controlRegisterWrites : Obligations.ControlRegisterWrites := by
  intro s c v hp t
  have hother (d : CReg) (h : d ≠ c) : Effect.ctrlVals { ctrl := [(c, v)] } d = [] :=
    Effect.ctrlVals_eq_nil (by simpa using h)
  refine ⟨?_, fun d hd hss hcs => ?_, commit_regs_of_nil s rfl, commit_dmem s _, commit_ss s _,
    commit_csl s _, commit_csh s _⟩
  · rw [readCReg_commit hp fun _ => rfl]
    cases c <;> simp [Effect.creg, Effect.ctrlVals, atWidth]
  · exact readCReg_commit_of_unwritten (hother d hd) (fun _ => rfl)
      (fun h => hother .sp (hss h).symm) (fun h => hother .cp (hcs h).symm)

/-- Settles O54: each flag by its bit of CCR; the other bits are no operation's. -/
theorem flagWrites : Obligations.FlagWrites := by
  intro s e fl hfl hccr t
  have hbit {i : Nat} (hi : i < 16) : t.ccr.getLsbD i = (fl.atBit i).getD (s.ccr.getLsbD i) :=
    ccr_getLsbD_of_one_op s hfl hccr hi
  refine ⟨hbit (i := 0) (by decide), hbit (i := 1) (by decide), hbit (i := 2) (by decide),
    hbit (i := 3) (by decide), hbit (i := 4) (by decide), hbit (i := 6) (by decide), fun i hi => ?_⟩
  exact ccr_getLsbD_of_unwritten s (e.flagVals_of_no_flag hi) hccr

/-- Settles O55: what a location takes is a member of the values written to it, at the location's width;
a bit of CCR that is no flag, or of a CCR that no operation writes, is that of the transfer. -/
theorem competingWrites : Obligations.CompetingWrites := by
  intro s e t flag
  have hcreg (c : CReg) (h : e.ctrlVals c ≠ []) : e.creg s c ∈ e.ctrlVals c := resolve_mem _ _ _ h
  refine ⟨fun n h => ?_, hcreg .ac0, hcreg .ac1, fun c hp hl hccr h => ?_,
    ccr_getLsbD_competing e s (i := 0) (by decide), ccr_getLsbD_competing e s (i := 1) (by decide),
    ccr_getLsbD_competing e s (i := 2) (by decide), ccr_getLsbD_competing e s (i := 3) (by decide),
    ccr_getLsbD_competing e s (i := 4) (by decide), ccr_getLsbD_competing e s (i := 6) (by decide),
    fun h => ⟨e.creg s .ccr, hcreg .ccr h, fun hfl => ?_, fun i hi hno => ?_⟩⟩
  · rw [commit_r16]
    exact resolve_mem _ _ _ h
  · refine List.mem_map.mpr ⟨e.creg s c, hcreg c h, ?_⟩
    rw [readCReg_commit hp fun h => absurd h hccr]
    cases c with
    | ac0 | ac1 => cases hl
    | _ => rfl
  · have hbase : e.ccr s = (e.creg s .ccr).setWidth 16 := by
      simp [Effect.ccr, Effect.setFlag, hfl]
    exact hbase.trans (BitVec.setWidth_eq_extractLsb' (by decide))
  · exact (ccr_getLsbD e s hi).trans (Effect.flagBit_of_nil s _ (e.flagVals_of_no_flag hno))

/-- Settles O35: the fields of the state after reset. -/
theorem resetIsTheLaunchState : Obligations.ResetIsTheLaunchState := by
  unfold Obligations.ResetIsTheLaunchState
  decide

end Sys2Proof.Machine

/-! What only program flow changes (spec/10_state.md R29, R31 to R33): every other instruction makes the
writes of its parts and falls through (`exec_of_not_flow`), and those writes reach neither DCSR nor an
entry of a stack nor the delayed transfer. -/

namespace Sys2Proof.Machine

/-! ### What only program flow changes -/

/-- An instruction other than program flow makes the writes of its parts and falls through. -/
theorem exec_of_not_flow {i : Instr} {s t : State} (hi : isFlow i = false) (h : exec i s = .next t) :
    ∃ len e, t = advance len .fallthrough (commit s e) := by
  have hfinish {len : Half} {p : Part} (h : finish s len p = .next t) :
      ∃ len e, t = advance len .fallthrough (commit s e) := by
    obtain ⟨e, -, rfl⟩ := (finish_next ..).1 h
    exact ⟨len, e, rfl⟩
  cases hp : partsOf i with
  | some p =>
    rw [exec_of_parts i p.1 p.2 s hp] at h
    obtain ⟨e, ex, -, -, rfl⟩ := runForm_inv _ _ _ _ _ h
    exact ⟨_, _, rfl⟩
  | none =>
    cases i with
    | nop => exact hfinish (len := 1) (p := idle) h
    | move f => cases f <;> exact hfinish h
    | move16Agu d imm => exact hfinish h
    | move16Pcu d imm => exact hfinish h
    | frame8a i1 i2 at2 x => exact hfinish ((runFrame_next ..).1 h).2
    | frame8b i1 i2 at2 x => exact hfinish ((runFrame_next ..).1 h).2
    | frame8c i1 i2 cc rs rd => exact hfinish ((runFrame_next ..).1 h).2
    | frame8d i1 i2 x => exact hfinish ((runFrame_next ..).1 h).2
    | b | bd | bs | j | jd | js | rts | stop | enddo => cases hi
    | doNAbs | doNRel | doDAbs | doDRel | doforAbs | doforRel => cases hi
    | _ => cases hp

/-- DCSR and the entries of the stacks, of which an instruction that is no call and opens no loop changes
nothing (R29, R31, R33). -/
structure KeepsEntries (s t : State) : Prop where
  dcsr : t.dcsr = s.dcsr
  ss : t.ss = s.ss
  csl : t.csl = s.csl
  csh : t.csh = s.csh

theorem KeepsEntries.trans {s u t : State} (h : KeepsEntries s u) (k : KeepsEntries u t) :
    KeepsEntries s t :=
  ⟨k.dcsr.trans h.dcsr, k.ss.trans h.ss, k.csl.trans h.csl, k.csh.trans h.csh⟩

theorem advance_keepsEntries (len : Half) (ctl : Ctl) (s : State) :
    KeepsEntries s (advance len ctl s) := by
  obtain ⟨-, -, -, -, -, hdcsr, hss, hcsl, hcsh, -⟩ := advance_keeps len ctl s
  exact ⟨hdcsr, hss, hcsl, hcsh⟩

theorem commit_keepsEntries (s : State) (e : Effect) : KeepsEntries s (commit s e) :=
  ⟨commit_dcsr s e, commit_ss s e, commit_csl s e, commit_csh s e⟩

theorem exec_keepsEntries_of_not_flow {i : Instr} {s t : State} (hi : isFlow i = false)
    (h : exec i s = .next t) : KeepsEntries s t := by
  obtain ⟨len, e, rfl⟩ := exec_of_not_flow hi h
  exact (commit_keepsEntries s e).trans (advance_keepsEntries ..)

/-- A program-flow instruction leaves the entries as its own writes, which lead to `u`, leave them: only
the move of the program counter follows, and under a false condition nothing is written at all. -/
theorem flow_entries {s t u : State} {b : Bool} {len : Half} {ctl : Ctl}
    (h : flow s b len ctl u = .next t) : KeepsEntries u t ∨ KeepsEntries s t := by
  obtain ⟨-, rfl⟩ := (flow_next ..).1 h
  cases b with
  | true => exact .inl (advance_keepsEntries ..)
  | false => exact .inr (advance_keepsEntries len .fallthrough s)

theorem doLoop_dcsr {s t : State} {len : Half} {count : BitVec 14} {last : Half}
    (h : doLoop s len count last = .next t) : t.dcsr = s.dcsr := by
  obtain ⟨-, -, rfl⟩ := (doLoop_next ..).1 h
  exact (advance_keepsEntries ..).dcsr

/-- Only STOP changes DCSR (R29, R552). -/
theorem exec_dcsr {i : Instr} {s t : State} (h : exec i s = .next t) (hne : i ≠ .stop) :
    t.dcsr = s.dcsr := by
  cases i with
  | stop => exact absurd rfl hne
  | b | bd | bs | j | jd | js | rts | enddo => obtain k | k := flow_entries h <;> exact k.dcsr
  | doforAbs | doforRel => obtain k | k := flow_entries h <;> exact k.dcsr
  | doNAbs | doNRel | doDAbs | doDRel => exact doLoop_dcsr h
  | _ => exact (exec_keepsEntries_of_not_flow rfl h).dcsr

/-- Settles O38: what each kind of program flow writes itself, the other instructions write nothing of
these, and no instruction's move of the program counter does. -/
theorem onlyTheseChange : Obligations.OnlyTheseChange := by
  refine ⟨fun i s t h => ⟨exec_dcsr h, ?_⟩, fun s t h hstopped => ?_⟩
  · cases i with
    | b | bd | j | jd | rts | enddo | stop =>
      obtain k | k := flow_entries h <;> exact ⟨k.ss, k.csl, k.csh⟩
    | bs | js => obtain k | k := flow_entries h <;> exact ⟨trivial, k.csl, k.csh⟩
    | doNAbs | doNRel | doDAbs | doDRel | doforAbs | doforRel => exact ⟨trivial, trivial⟩
    | _ =>
      have k := exec_keepsEntries_of_not_flow rfl h
      exact ⟨k.ss, k.csl, k.csh⟩
  · obtain ⟨hrun, i, hcur, hi⟩ := step_next s t h
    by_cases hne : i = .stop
    · rw [hcur, hne]
    · rw [State.running, exec_dcsr hi hne] at hstopped
      rw [State.running, hstopped] at hrun
      cases hrun

/-! ### The delay slot -/

/-- Where no delayed transfer is pending, only an instruction that asks for one leaves one. -/
theorem advance_delay_none {len : Half} {ctl : Ctl} {s : State} (h : s.delay = none)
    (hctl : ∀ x, ctl ≠ .delayed x) : (advance len ctl s).delay = none := by
  cases ctl with
  | goto x => simp [advance_goto, h]
  | delayed x => exact absurd rfl (hctl x)
  | fallthrough =>
    simp only [advance, h, State.endOfLoop]
    split
    · split
      · rfl
      · split <;> simp
    · rfl

/-- Program flow is refused in a delay slot (U10). -/
theorem flow_in_delaySlot {s u : State} {b : Bool} {len : Half} {ctl : Ctl} (h : s.delay ≠ none) :
    flow s b len ctl u = .refused .flowInDelaySlot := by
  obtain ⟨x, hx⟩ := Option.ne_none_iff_exists'.mp h
  simp [flow, hx]

theorem doLoop_in_delaySlot {s : State} {len : Half} {count : BitVec 14} {last : Half}
    (h : s.delay ≠ none) : doLoop s len count last = .refused .flowInDelaySlot := by
  obtain ⟨x, hx⟩ := Option.ne_none_iff_exists'.mp h
  simp [doLoop, hx]

theorem exec_flow_in_delaySlot {i : Instr} {s : State} (hi : isFlow i = true) (h : s.delay ≠ none) :
    exec i s = .refused .flowInDelaySlot := by
  cases i with
  | b | bd | bs | j | jd | js | rts | stop | enddo => exact flow_in_delaySlot h
  | doforAbs | doforRel => exact flow_in_delaySlot h
  | doNAbs | doNRel | doDAbs | doDRel => exact doLoop_in_delaySlot h
  | _ => cases hi

/-- Program flow that asks for no delayed transfer, or whose condition is false, leaves none pending. -/
theorem flow_delay_none {s t u : State} {b : Bool} {len : Half} {ctl : Ctl}
    (h : flow s b len ctl u = .next t) (hu : u.delay = s.delay)
    (hctl : b = true → ∀ x, ctl ≠ .delayed x) : t.delay = none := by
  obtain ⟨hd, rfl⟩ := (flow_next ..).1 h
  cases b with
  | true => exact advance_delay_none (hu.trans hd) (hctl rfl)
  | false => exact advance_delay_none (len := len) (ctl := .fallthrough) hd (by simp)

theorem doLoop_delay_none {s t : State} {len : Half} {count : BitVec 14} {last : Half}
    (h : doLoop s len count last = .next t) : t.delay = none := by
  obtain ⟨hd, -, rfl⟩ := (doLoop_next ..).1 h
  exact advance_delay_none hd (by simp)

/-- `cond(cc, CCR)` as the rules say it: always, or the condition of CCR (R120). -/
theorem holds_iff (s : State) (cc : Cond) :
    s.holds cc = true ↔ cc = 15 ∨ Config.cond cc s.ccr = true := by
  simp [State.holds]

/-- Only a taken BD or JD leaves a delayed transfer pending (R261, R354). -/
theorem exec_delay {i : Instr} {s t : State} (h : exec i s = .next t) (hs : s.delay = none)
    (ht : t.delay ≠ none) : ∃ cc tg, (i = .bd cc tg ∨ i = .jd cc tg) ∧ s.holds cc = true := by
  cases i with
  | bd cc tg =>
    exact ⟨cc, tg, .inl rfl, by_contra fun hc => ht (flow_delay_none h rfl fun hb => absurd hb hc)⟩
  | jd cc tg =>
    exact ⟨cc, tg, .inr rfl, by_contra fun hc => ht (flow_delay_none h rfl fun hb => absurd hb hc)⟩
  | b | bs | j | js | rts | stop | enddo => exact absurd (flow_delay_none h rfl (by simp)) ht
  | doforAbs | doforRel => exact absurd (flow_delay_none h rfl (by simp)) ht
  | doNAbs | doNRel | doDAbs | doDRel => exact absurd (doLoop_delay_none h) ht
  | _ =>
    obtain ⟨len, e, rfl⟩ := exec_of_not_flow rfl h
    exact absurd (advance_delay_none ((commit_delay s e).trans hs) (by simp)) ht

/-- Settles O39: in a delay slot only instructions that fall through run, and their end is the pending
target. -/
theorem delaySlot : Obligations.DelaySlot := by
  refine ⟨fun i s t h => ⟨fun x hx => ?_, fun hs ht => ?_⟩, fun i s => exec_flow_in_delaySlot⟩
  · cases hi : isFlow i with
    | true =>
      rw [exec_flow_in_delaySlot hi (by simp [hx])] at h
      cases h
    | false =>
      obtain ⟨len, e, rfl⟩ := exec_of_not_flow hi h
      rw [advance_delayed len x .fallthrough _ ((commit_delay s e).trans hx)]
      exact ⟨rfl, rfl⟩
  · obtain ⟨cc, tg, hi, hc⟩ := exec_delay h hs ht
    exact ⟨cc, tg, hi, (holds_iff s cc).1 hc⟩

end Sys2Proof.Machine

/-! The transfers with control registers (spec/47_move_to_notl.md R414, R415, R419): each of the forms
that can hold one is the same transfer, so what it writes or refuses is said once (`xferRC`,
`xferImmRC`). -/

namespace Sys2Proof.Machine

/-! ### Transfers with a control register -/

/-- A 16-bit value widened to 32 bits. -/
theorem setWidth_eq_zero_append (v : Half) : v.setWidth 32 = 0#16 ++ v :=
  BitVec.setWidth_eq_append (by decide)

/-- The condition 1111 is always true (R120). -/
theorem always_holds (s : State) : s.holds 15 = true := rfl

/-- MOVE with a control register, always. -/
theorem exec_move_rc (s : State) (x : XferRC) :
    exec (.move (.rc 15 x)) s = finish s 1 (xferRC s x) := by
  change finish s 1 (guarded (s.holds 15) (xferRC s x)) = _
  rw [always_holds, guarded_true]

theorem exec_move16Agu (s : State) (idx : BitVec 5) (imm : Half) :
    exec (.move16Agu idx imm) s = finish s 1 (xferImmRC s false idx (imm.setWidth 32)) := rfl

theorem exec_move16Pcu (s : State) (idx : BitVec 5) (imm : Half) :
    exec (.move16Pcu idx imm) s = finish s 1 (xferImmRC s true idx (imm.setWidth 32)) := rfl

theorem beside_f6 (s : State) (s1 : Opnd) (d : RegNo) (x : XferRC) :
    beside s (.f6 s1 d x) = xferRC s x := guarded_true _

theorem beside_f8d (s : State) (slot : SlotPos) (m : Bool) (s1 : Opnd) (s2 d : RegNo) (x : XferRC) :
    beside s (.f8 slot m s1 s2 d (.d x)) = xferRC s x := guarded_true _

/-- An immediate to a control register in format 7. -/
theorem beside_f7_rc (s : State) (cc : Cond) (s1 d : RegNo) (idx : BitVec 5) (sc : Bool) (v : Long) :
    beside s (.f7 cc s1 d ⟨idx, sc, true, v⟩) = guarded (s.holds cc) (xferImmRC s sc idx v) := rfl

section
variable {s : State} {sc : Bool} {idx : BitVec 5} {c : CReg}

theorem xferRC_load (r : RegNo) (h : s.rcAt sc idx = some c)
    (heven : isLongReg c = true → isEven r = true) :
    xferRC s ⟨r, sc, idx, true⟩ = .next { regs := if isLongReg c then write32 r (s.readCReg c)
      else [(r, (s.readCReg c).extractLsb' 0 16)] } := by
  cases hl : isLongReg c with
  | true => simp [xferRC, h, hl, heven hl]
  | false => simp [xferRC, h, hl, write16, BitVec.setWidth_eq_extractLsb']

theorem xferRC_store (r : RegNo) (h : s.rcAt sc idx = some c)
    (heven : isLongReg c = true → isEven r = true) (hp : isProtected c = false) :
    xferRC s ⟨r, sc, idx, false⟩
      = .next { ctrl := [(c, if isLongReg c then s.r32 r else 0#16 ++ s.r16 r)] } := by
  cases hl : isLongReg c with
  | true => simp [xferRC, h, hl, heven hl, hp]
  | false => simp [xferRC, h, hl, hp, setWidth_eq_zero_append]

theorem xferImmRC_store (v : Long) (h : s.rcAt sc idx = some c) (hp : isProtected c = false) :
    xferImmRC s sc idx v = .next { ctrl := [(c, v)] } :=
  (xferImmRC_next ..).2 ⟨c, h, hp, rfl⟩

/-- A number that names no register (U17). -/
theorem xferRC_unassigned (r : RegNo) (de : Bool) (h : s.rcAt sc idx = none) :
    xferRC s ⟨r, sc, idx, de⟩ = .refused .rcUnassigned := by
  simp [xferRC, h]

theorem xferImmRC_unassigned (v : Long) (h : s.rcAt sc idx = none) :
    xferImmRC s sc idx v = .refused .rcUnassigned := by
  simp [xferImmRC, h]

/-- A protected destination (U22); no protected register is 32 bits wide. -/
theorem xferRC_protected (r : RegNo) (h : s.rcAt sc idx = some c) (hp : isProtected c = true) :
    xferRC s ⟨r, sc, idx, false⟩ = .refused (.protectedDestination c) := by
  have hl : isLongReg c = false := by
    cases c <;> trivial
  simp [xferRC, h, hl, hp]

theorem xferImmRC_protected (v : Long) (h : s.rcAt sc idx = some c) (hp : isProtected c = true) :
    xferImmRC s sc idx v = .refused (.protectedDestination c) := by
  simp [xferImmRC, h, hp]

/-- An odd register beside an accumulator (U2). -/
theorem xferRC_odd {r : RegNo} (de : Bool) (h : s.rcAt sc idx = some c) (hl : isLongReg c = true)
    (hr : isEven r = false) : xferRC s ⟨r, sc, idx, de⟩ = .refused .oddRegister := by
  simp [xferRC, h, hl, hr]

end

/-- The registers of the group of A, M and AT are not protected. -/
theorem not_protected_of_group {c : CReg} (h : groupOf c = false) : isProtected c = false := by
  cases c with
  | a | m | atReg => rfl
  | _ => cases h

/-- Settles O47: each home of a transfer with a control register is the same transfer, which loads or
stores at the register's width. -/
theorem controlRegisterMoves : Obligations.ControlRegisterMoves := by
  intro r idx c imm s done
  refine ⟨?_, fun h => ?_, fun h => ?_, fun sc h hp cc s1 d v => ?_,
    setWidth_eq_zero_append _, setWidth_eq_zero_append _, setWidth_eq_zero_append _,
    setWidth_eq_zero_append _⟩
  · intro sc h load store heven
    have hload : xferRC s ⟨r, sc, idx, true⟩ = .next load := xferRC_load r h heven
    refine ⟨?_, fun s1 d => ?_, fun slot m s1 s2 d => ?_, fun hp => ?_⟩
    · rw [exec_move_rc, hload]; rfl
    · rw [beside_f6, hload]
    · rw [beside_f8d, hload]
    · have hstore : xferRC s ⟨r, sc, idx, false⟩ = .next store := xferRC_store r h heven hp
      refine ⟨?_, fun s1 d => ?_, fun slot m s1 s2 d => ?_⟩
      · rw [exec_move_rc, hstore]; rfl
      · rw [beside_f6, hstore]
      · rw [beside_f8d, hstore]
  · have hg := rcAt_group s false idx c h
    refine ⟨?_, ?_⟩
    · cases c with
      | a | m | atReg => trivial
      | _ => cases hg
    · rw [exec_move16Agu, xferImmRC_store _ h (not_protected_of_group hg), setWidth_eq_zero_append]
      rfl
  · have hg := rcAt_group s true idx c h
    refine ⟨?_, fun hp => ?_⟩
    · cases c with
      | a | m | atReg => cases hg
      | _ => trivial
    · rw [exec_move16Pcu, xferImmRC_store _ h hp, setWidth_eq_zero_append]; rfl
  · rw [beside_f7_rc, xferImmRC_store v h hp]; rfl

/-- Settles O48: each home of a transfer with a control register refuses what that transfer refuses. -/
theorem refusedControlTransfers : Obligations.RefusedControlTransfers := by
  intro r d s1 sc idx de imm v s all immediates
  have hall (de : Bool) (why : Refusal) (h : xferRC s ⟨r, sc, idx, de⟩ = .refused why) :
      all de why := by
    refine ⟨?_, ?_, h⟩
    · rw [exec_move_rc, h]; rfl
    · rw [beside_f6, h]
  have himm (why : Refusal) (h : ∀ v, xferImmRC s sc idx v = .refused why) : immediates why := by
    refine ⟨?_, ?_, ?_⟩
    · rw [beside_f7_rc, h, always_holds]; rfl
    · rintro rfl; rw [exec_move16Agu, h]; rfl
    · rintro rfl; rw [exec_move16Pcu, h]; rfl
  refine ⟨fun h => ?_, fun c hc h => ?_, fun c hc h hodd => ?_⟩
  · exact ⟨hall _ _ (xferRC_unassigned r de h), himm _ fun v => xferImmRC_unassigned v h⟩
  · have hp : isProtected c = true := by
      simp only [List.mem_cons, List.not_mem_nil, or_false] at hc
      obtain rfl | rfl | rfl | rfl | rfl := hc <;> rfl
    exact ⟨hall _ _ (xferRC_protected r h hp), himm _ fun v => xferImmRC_protected v h hp⟩
  · have hl : isLongReg c = true := by
      simp only [List.mem_cons, List.not_mem_nil, or_false] at hc
      obtain rfl | rfl := hc <;> rfl
    exact hall _ _ (xferRC_odd de h hl (by simp [isEven, hodd]))

end Sys2Proof.Machine

/-! The frame of the ALU instructions (spec/10_state.md R45, spec/30_encoding.md R130, R133): which
registers each operation names (`aluOf_writesWithin`), which transfers store
(`beside_storesNothing`), and what the end of an instruction leaves (`keepsBut_advance_commit`). -/

namespace Sys2Proof.Machine

/-! ### What an operation writes -/

/-- An operation writes no register outside `dests`, no control register but the accumulators, and these
only where `acc` allows it, and no data memory. -/
def WritesWithin (dests : List RegNo) (acc : Bool) (p : Part) : Prop :=
  ∀ e, p = .next e → (∀ n ∈ e.regs.map Prod.fst, n ∈ dests)
    ∧ (∀ c ∈ e.ctrl.map Prod.fst, acc = true ∧ c ∈ [CReg.ac0, .ac1]) ∧ e.mem = none

/-- Register writes and flags alone. -/
theorem writesWithin_regs {dests : List RegNo} {acc : Bool} {regs : List (RegNo × Half)}
    {flags : List FlagUpd} (h : regs.map Prod.fst ⊆ dests) :
    WritesWithin dests acc (.next { regs, flags }) := by
  rintro e ⟨⟩
  exact ⟨h, nofun, rfl⟩

theorem writesWithin_flags {dests : List RegNo} {acc : Bool} {flags : List FlagUpd} :
    WritesWithin dests acc (.next { flags }) := writesWithin_regs (regs := []) (by simp)

theorem writesWithin_write16 {acc : Bool} {n : RegNo} {v : Half} {flags : List FlagUpd} :
    WritesWithin [n] acc (.next { regs := write16 n v, flags }) :=
  writesWithin_regs fun _ => id

theorem writesWithin_write32 {acc : Bool} {n : RegNo} {v : Long} {flags : List FlagUpd} :
    WritesWithin (pairOf n) acc (.next { regs := write32 n v, flags }) :=
  writesWithin_regs fun _ => id

/-- The numbers that a 64-bit write names are those of the quadruple (R22). -/
theorem write64_numbers (n : RegNo) (w : Dbl) : (write64 n w).map Prod.fst = quadOf n := by
  simp [write64, write32, quadOf, add_assoc]

theorem writesWithin_write64 {acc : Bool} {n : RegNo} {w : Dbl} {flags : List FlagUpd} :
    WritesWithin (quadOf n) acc (.next { regs := write64 n w, flags }) :=
  writesWithin_regs (by simp [write64_numbers])

/-- The numbers that two 32-bit results name are those of the two pairs, or of the one they share
(U8). -/
theorem writeTwo32_numbers (s : State) (n1 : RegNo) (v1 : Long) (n2 : RegNo) (v2 : Long) :
    (writeTwo32 s n1 v1 n2 v2).map Prod.fst ⊆ pairOf n1 ++ pairOf n2 := by
  unfold writeTwo32
  split <;> simp [write32, pairOf]

theorem writesWithin_writeTwo32 {acc : Bool} {s : State} {n1 n2 : RegNo} {v1 v2 : Long}
    {flags : List FlagUpd} :
    WritesWithin (pairOf n1 ++ pairOf n2) acc
      (.next { regs := writeTwo32 s n1 v1 n2 v2, flags }) :=
  writesWithin_regs (writeTwo32_numbers ..)

/-- Register writes, flags and both accumulators. -/
theorem writesWithin_accumulators {dests : List RegNo} {regs : List (RegNo × Half)} {v0 v1 : Long}
    {flags : List FlagUpd} (h : regs.map Prod.fst ⊆ dests) :
    WritesWithin dests true (.next { regs, ctrl := [(.ac0, v0), (.ac1, v1)], flags }) := by
  rintro e ⟨⟩
  exact ⟨h, fun c hc => ⟨rfl, hc⟩, rfl⟩

theorem writesWithin_refused {dests : List RegNo} {acc : Bool} {r : Refusal} :
    WritesWithin dests acc (.refused r) := nofun

/-- ADDSUB writes its two registers, or the pair while DD = 1 (R209). -/
theorem aluAddsub_writesWithin (s : State) (b : Binding) :
    WritesWithin (destinations s .addsub b) false (aluAddsub s b) := by
  unfold aluAddsub destinations
  cases s.dd with
  | false => exact writesWithin_regs fun _ => id
  | true =>
    cases b.three with
    | false => exact writesWithin_refused
    | true =>
      cases isEven b.dst with
      | false => exact writesWithin_refused
      | true => exact writesWithin_write32

/-- A sum and a difference of 32 bits go to two pairs, or to the quadruple while DD = 1, where a
two-address form is refused (R210, R211). -/
theorem writesWithin_sumAndDifference (s : State) (b : Binding) {acc : Bool} (v1 v2 : Long) (w : Dbl)
    (flags : List FlagUpd) :
    WritesWithin (if s.dd then quadOf b.dst else pairOf (sumDest b) ++ pairOf (difDest b)) acc
      (if s.dd then
          if !b.three then .refused .twoAddressDD1 else .next { regs := write64 b.dst w, flags }
        else .next { regs := writeTwo32 s (sumDest b) v1 (difDest b) v2, flags }) := by
  cases s.dd with
  | false => exact writesWithin_writeTwo32
  | true =>
    cases b.three with
    | false => exact writesWithin_refused
    | true => exact writesWithin_write64

/-- FAS writes the sum to D and the difference over S2, or both to the quadruple while DD = 1 (R322). -/
theorem aluFas_writesWithin (s : State) (b : Binding) :
    WritesWithin (destinations s .fas b) false (aluFas s b) := by
  unfold aluFas destinations
  cases s.dd with
  | false => exact writesWithin_writeTwo32
  | true => exact writesWithin_write64

/-- CVFE writes the mantissa to D and the exponent to S2, or above the mantissa while DD = 1 (R291). -/
theorem aluCvfe_writesWithin (s : State) (b : Binding) :
    WritesWithin (destinations s .cvfe b) false (aluCvfe s b) := by
  unfold aluCvfe destinations
  cases s.dd with
  | false => exact writesWithin_regs fun _ => id
  | true => exact writesWithin_regs fun _ => id

/-- SAC2 writes 32 or 64 bits, and the accumulators (R481). -/
theorem aluSac2_writesWithin (s : State) (b : Binding) :
    WritesWithin (destinations s .sac2 b) true (aluSac2 s b) := by
  refine writesWithin_accumulators ?_
  split
  · simp [write64_numbers, destinations]
  · simp [write32, destinations, quadOf]

/-- Each operation writes only the destinations of its rule (`destinations`) and, of the control
registers, only the accumulators, where its rule says so. -/
theorem aluOf_writesWithin (s : State) (op : Op) (b : Binding) :
    WritesWithin (destinations s op b) (writesAccumulators op) (aluOf op s b) := by
  cases op with
  | nop => exact writesWithin_flags
  | btst | btstl | cmp | cmpl | cmpm | cmpml | tst | tstl | tstx | ftst => exact writesWithin_flags
  | abs | adc | add | addlrtr | ad1 | and | andc | andi | asl | asr | clr | dec | eor | ftrl | inc
  | lsl | lsr | max | maxm | min | minm | mskg | neg | not | or | orc | ori | pack | pdn | pdnl
  | pdnx | rol | ror | sbc | smb | smbl | sub | sublrtr | tr => exact writesWithin_write16
  | mpyl => exact writesWithin_write64
  | mac | macl | mac2 =>
    exact writesWithin_accumulators (by simp [write64_numbers, destinations, Op.info])
  | cs2 | mmacx => exact writesWithin_accumulators fun _ => id
  | addsub => exact aluAddsub_writesWithin s b
  | addsubl | addsubx => exact writesWithin_sumAndDifference s b _ _ _ _
  | fas => exact aluFas_writesWithin s b
  | cvfe => exact aluCvfe_writesWithin s b
  | sac2 => exact aluSac2_writesWithin s b
  | _ => exact writesWithin_write32

/-! ### What the end of an instruction leaves -/

theorem advance_r16 (len : Half) (ctl : Ctl) (s : State) (n : RegNo) :
    (advance len ctl s).r16 n = s.r16 n := by
  obtain ⟨hregs, -⟩ := advance_keeps len ctl s
  simp only [State.r16, hregs]

theorem advance_readCReg (len : Half) (ctl : Ctl) (s : State) {c : CReg}
    (hc : c ∉ [CReg.pc, .la, .lc, .sp, .cp, .ss, .csl, .csh]) :
    (advance len ctl s).readCReg c = s.readCReg c := by
  obtain ⟨-, hac0, hac1, hccr, hsr, hdcsr, -, -, -, ha, hm, hat, -⟩ := advance_keeps len ctl s
  cases c with
  | a | m | atReg | sr | dcsr | ccr | ac0 | ac1 => simp only [State.readCReg, *]
  | _ => simp at hc

/-- The loop registers and the stack pointers move only behind the last instruction of an active loop. -/
theorem advance_loop_registers (len : Half) {s : State} {c : CReg}
    (hend : s.delay ≠ none ∨ s.loopActive = false ∨ s.pc ≠ s.la) (hc : c ∈ [CReg.la, .lc, .sp, .cp]) :
    (advance len .fallthrough s).readCReg c = s.readCReg c := by
  simp only [List.mem_cons, List.not_mem_nil, or_false] at hc
  cases hd : s.delay with
  | some x =>
    rw [advance_delayed len x _ s hd]
    obtain rfl | rfl | rfl | rfl := hc <;> rfl
  | none =>
    have hlast : ¬ (s.loopActive = true ∧ s.pc = s.la) := by
      rintro ⟨hl, hpc⟩
      simp [hd, hl, hpc] at hend
    rw [advance_plain len s hd hlast]
    obtain rfl | rfl | rfl | rfl := hc <;> rfl

/-- What an instruction that transfers no control leaves (`keepsBut`), from the control registers that
its parts name. -/
theorem keepsBut_advance_commit {s : State} {e : Effect} (len : Half) {written : List CReg}
    (hctrl : ∀ c, c ∉ written → e.ctrlVals c = []) (hccr : CReg.ccr ∉ written → e.flags = []) :
    keepsBut written s (advance len .fallthrough (commit s e)) := by
  have hcommit {c : CReg} (hc : c ∉ written) (hss : c ∉ [CReg.ss, .csl, .csh]) :
      (commit s e).readCReg c = s.readCReg c := by
    simp only [List.mem_cons, List.not_mem_nil, or_false, not_or] at hss
    obtain ⟨hss, hcsl, hcsh⟩ := hss
    exact readCReg_commit_of_unwritten (hctrl c hc) (fun h => hccr (h ▸ hc)) (fun h => absurd h hss)
      fun h => h.elim (absurd · hcsl) (absurd · hcsh)
  obtain ⟨-, -, -, -, -, hdcsr, hss, hcsl, hcsh, -, -, -, hpmem, -, hlaunch, -⟩ :=
    advance_keeps len .fallthrough (commit s e)
  refine ⟨fun c hc hno => ?_, hdcsr.trans (commit_dcsr ..), hss.trans (commit_ss ..),
    hcsl.trans (commit_csl ..), hcsh.trans (commit_csh ..), hpmem.trans (commit_pmem ..),
    hlaunch.trans (commit_launch ..), fun hla hlc hend c hc hno => ?_⟩
  · rw [advance_readCReg len _ _ hno]
    exact hcommit hc fun h => hno (List.mem_append_right [CReg.pc, .la, .lc, .sp, .cp] h)
  · have hla' : (commit s e).la = s.la := by
      simp [creg_of_none s e .la (hctrl .la hla), State.readCReg]
    have hlc' : (commit s e).lc = s.lc := by
      simp [creg_of_none s e .lc (hctrl .lc hlc), State.readCReg]
    have hend' : (commit s e).delay ≠ none ∨ (commit s e).loopActive = false
        ∨ (commit s e).pc ≠ (commit s e).la := by
      rwa [commit_delay, commit_pc, hla', State.loopActive, hlc']
    rw [advance_loop_registers len hend' hc]
    exact hcommit hno ((by decide : ∀ c ∈ [CReg.la, .lc, .sp, .cp], c ∉ [CReg.ss, .csl, .csh]) c hc)

/-! ### Which transfers store -/

/-- A part that runs stores no data word. -/
def StoresNothing (p : Part) : Prop := ∀ e, p = .next e → e.mem = none

theorem StoresNothing.guarded {p : Part} (b : Bool) (h : StoresNothing p) :
    StoresNothing (guarded b p) := by
  intro e he
  obtain ⟨-, he⟩ | ⟨-, rfl⟩ := (guarded_next ..).1 he
  · exact h e he
  · rfl

theorem StoresNothing.both {p q : Part} (hp : StoresNothing p) (hq : StoresNothing q) :
    StoresNothing (both p q) := by
  intro e he
  obtain ⟨a, b, ha, hb, rfl⟩ := (both_next ..).1 he
  simp [Effect.and, hp a ha, hq b hb]

theorem xferX_storesNothing {s : State} {imm : Half} {x : XferX} (h : storeOf s imm x = none) :
    StoresNothing (xferX s imm x) := by
  have hde : x.de = true := by simpa [storeOf] using h
  intro e he
  obtain ⟨-, rfl⟩ := (xferX_next ..).1 he
  simp [hde]

theorem xferY_storesNothing (s : State) (at2 : BitVec 2) : StoresNothing (xferY s at2) := by
  intro e he
  obtain ⟨-, rfl⟩ | ⟨-, -, rfl⟩ := (xferY_next ..).1 he <;> rfl

theorem xferRR_storesNothing (s : State) (x : XferRR) : StoresNothing (xferRR s x) := by
  rw [xferRR_eq]
  rintro e ⟨⟩
  rfl

theorem xferRC_storesNothing (s : State) (x : XferRC) : StoresNothing (xferRC s x) := by
  intro e he
  obtain ⟨c, -, -, hload, hstore⟩ := xferRC_next s x e he
  cases hde : x.de with
  | true => rw [hload hde]
  | false => rw [(hstore hde).2]

theorem xferImm_storesNothing (s : State) (x : XferImm) : StoresNothing (xferImm s x) := by
  intro e he
  obtain ⟨hreg, hcreg⟩ := xferImm_next s x e he
  cases hsr : x.sr with
  | false => rw [hreg hsr]
  | true =>
    obtain ⟨c, -, -, rfl⟩ := hcreg hsr
    rfl

/-- The transfer of a form stores only where the form names a word to store to (`formStore`). -/
theorem beside_storesNothing {s : State} {f : Form} (h : formStore s f = none) :
    StoresNothing (beside s f) := by
  refine StoresNothing.guarded _ ?_
  cases f with
  | f1 | f2 | f3 => rintro e ⟨⟩; rfl
  | f4 s1 d x => exact xferX_storesNothing h
  | f5 s1 d x => exact xferRR_storesNothing s x
  | f6 s1 d x => exact xferRC_storesNothing s x
  | f7 cc s1 d x => exact xferImm_storesNothing s x
  | f8 slot m s1 s2 d fr =>
    cases fr with
    | a at2 x => exact (xferX_storesNothing h).both (xferY_storesNothing s at2)
    | b at2 x => exact (xferRR_storesNothing s x).both (xferY_storesNothing s at2)
    | c cc rs rd => exact xferRR_storesNothing s _
    | d x => exact xferRC_storesNothing s x

/-! ### The frame of an ALU instruction -/

/-- Settles O56: the operation writes within its destinations and the accumulators, under a false
condition nothing, the transfer what it names, and the end of the instruction moves PC and the loop
registers. -/
theorem aluFrame : Obligations.AluFrame := by
  intro i op f s t ex hp hb h transferred accumulators
  rw [exec_of_parts i op f s hp] at h
  obtain ⟨e, ex', halu, hb', rfl⟩ := runForm_inv op (aluOf op) f s t h
  obtain rfl : ex' = ex := by simpa [hb'] using hb
  have hwithin : WritesWithin (destinations s op f.binding) (writesAccumulators op)
      (.next (if opHolds s f then e else {})) := by
    cases hc : opHolds s f with
    | true => exact halu hc ▸ aluOf_writesWithin s op f.binding
    | false => exact writesWithin_flags
  unfold after
  generalize (if opHolds s f then e else {}) = e at hwithin ⊢
  obtain ⟨hregs, hacc, hmem⟩ := hwithin e rfl
  have hctrl (c : CReg) (hc : c ∉ accumulators ++ transferred) : (e.and ex').ctrlVals c = [] := by
    refine Effect.ctrlVals_eq_nil fun hm => hc ?_
    rw [Effect.and, List.map_append, List.mem_append] at hm
    refine List.mem_append.mpr (hm.imp_left fun he => ?_)
    obtain ⟨hw, hmem⟩ := hacc c he
    simpa [accumulators, hw] using hmem
  refine ⟨fun n hd hn => ?_, ?_, fun ht k hk => ?_, fun hst => ?_⟩
  · rw [advance_r16]
    refine commit_r16_of_not_mem fun hm => ?_
    rw [Effect.and, List.map_append, List.mem_append] at hm
    exact hm.elim (fun he => hd (hregs n he)) hn
  · exact keepsBut_advance_commit f.len (fun c hc => hctrl c (List.not_mem_of_not_mem_cons hc))
      (by simp)
  · have hccr : CReg.ccr ∉ accumulators := by
      simp only [accumulators]
      split <;> simp
    obtain ⟨-, -, -, hkeep, -⟩ := advance_keeps f.len .fallthrough (commit s (e.and ex'))
    rw [hkeep]
    exact ccr_getLsbD_of_unwritten s (Effect.flagVals_of_no_flag _ hk)
      (hctrl .ccr (by simp [hccr, ht]))
  · have hnone : (e.and ex').mem = none := by
      simp [Effect.and, hmem, beside_storesNothing hst ex' hb']
    obtain ⟨-, -, -, -, -, -, -, -, -, -, -, -, -, hkeep, -⟩ :=
      advance_keeps f.len .fallthrough (commit s (e.and ex'))
    rw [hkeep, commit_dmem, hnone]

end Sys2Proof.Machine

/-! Data memory (spec/20_memory.md R72 to R80, spec/47_move_to_notl.md R411, R412, R418): the addresses
of the computed modes, the transfers with data memory as what they write or where they are stuck
(`xferX_eq`, `both_next_xferY`), the word that an instruction may store to (`exec_keepsDataBut`), and
what a MOVE leaves (`finish_keeps`). -/

namespace Sys2Proof.Machine

/-! ### The computed address modes -/

theorem aguX_modeImm (s : State) (n : BitVec 3) (u : Bool) (imm : Half) :
    s.aguX n s.launch.modeImm u imm = (s.a[n.toNat]'n.isLt + imm, []) := by
  simp [State.aguX]

theorem aguX_modeInd (s : State) (n : BitVec 3) (u : Bool) (imm : Half)
    (h : s.launch.modeInd ≠ s.launch.modeImm) :
    s.aguX n s.launch.modeInd u imm = (s.a[n.toNat]'n.isLt, []) := by
  simp [State.aguX, h]

theorem aguX_modeInc (s : State) (n : BitVec 3) (imm : Half)
    (himm : s.launch.modeInc ≠ s.launch.modeImm) (hind : s.launch.modeInc ≠ s.launch.modeInd)
    (hm : s.m[n.toNat]'n.isLt = s.launch.neutralM) :
    s.aguX n s.launch.modeInc s.launch.neutralU imm
      = (s.a[n.toNat]'n.isLt, [(.a n, (s.a[n.toNat]'n.isLt + 1).setWidth 32)]) := by
  simp [State.aguX, himm, hind, hm]

theorem aguY_atInd (s : State) : s.aguY s.launch.atInd = (s.atReg, []) := if_pos rfl

/-- In the modes `(An+#16)` and `(An)` the address generator writes nothing, also where a launch gives
both one code. -/
theorem aguX_writes_nothing {s : State} {mode : BitVec 3} (n : BitVec 3) (u : Bool) (imm : Half)
    (h : mode = s.launch.modeImm ∨ mode = s.launch.modeInd) : (s.aguX n mode u imm).2 = [] := by
  by_cases himm : mode = s.launch.modeImm
  · rw [himm, aguX_modeImm]
  · obtain rfl := h.resolve_left himm
    rw [aguX_modeInd s n u imm himm]

/-- Accepted launch parameters keep the three computed modes apart (R4). -/
theorem modes_apart {l : Launch} (h : l.ok = true) :
    l.modeImm ≠ l.modeInd ∧ l.modeImm ≠ l.modeInc ∧ l.modeInd ≠ l.modeInc := by
  simp only [Launch.ok, Bool.and_eq_true, bne_iff_ne] at h
  obtain ⟨⟨⟨-, hind⟩, hinc⟩, hii⟩ := h
  exact ⟨hind, hinc, hii⟩

/-- Settles O49: the three codes differ, so each mode reaches its own branch of the address generator. -/
theorem addressModes : Obligations.AddressModes := by
  intro n u imm s hok base
  obtain ⟨hind, hinc, hii⟩ := modes_apart hok
  refine ⟨aguX_modeImm s n u imm, aguX_modeInd s n u imm hind.symm, fun hm => ?_, aguY_atInd s⟩
  rw [aguX_modeInc s n imm hinc.symm hii.symm hm, setWidth_eq_zero_append]

/-! ### The transfers with data memory -/

/-- What the X transfer writes when its address lies in a region (R411). -/
def xWrites (s : State) (imm : Half) (x : XferX) : Effect :=
  let g := s.aguX x.a x.mode x.u imm
  if x.de then { regs := write32 (longReg x.r) (s.data g.1), ctrl := g.2 }
  else { ctrl := g.2, mem := some (g.1, s.r32 (longReg x.r)) }

/-- What the Y transfer writes when its address lies in YRAM (R412). -/
def yWrites (s : State) (at2 : BitVec 2) : Effect :=
  { regs := write32 0 (s.data (s.aguY at2).1), ctrl := (s.aguY at2).2 }

theorem xferX_eq (s : State) (imm : Half) (x : XferX) :
    xferX s imm x = if s.inX (s.aguX x.a x.mode x.u imm).1 then .next (xWrites s imm x)
      else .fault (.dataOutside (s.aguX x.a x.mode x.u imm).1) := by
  unfold xferX xWrites
  cases x.de <;> rfl

theorem xferY_eq (s : State) (at2 : BitVec 2) :
    xferY s at2 = if at2 = 0 then idle
      else if s.inY (s.aguY at2).1 then .next (yWrites s at2)
      else .fault (.dataOutside (s.aguY at2).1) := rfl

theorem finish_ite (s : State) (len : Half) (b : Bool) (e : Effect) (f : Fault) :
    finish s len (if b then .next e else .fault f)
      = if b then .next (advance len .fallthrough (commit s e)) else .fault f := by
  cases b <;> rfl

/-- The Y transfer beside a first transfer that runs: nothing for the field 00, stuck outside YRAM. -/
theorem both_next_xferY (s : State) (e : Effect) (at2 : BitVec 2) :
    both (.next e) (xferY s at2) = if at2 = 0 then .next e
      else if s.inY (s.aguY at2).1 then .next (e.and (yWrites s at2))
      else .fault (.dataOutside (s.aguY at2).1) := by
  rw [xferY_eq]
  split
  · exact congrArg _ (Effect.and_empty e)
  · cases s.inY (s.aguY at2).1 <;> rfl

/-- The frame 8a: of two stuck transfers the first names the address (log 50). -/
theorem frameTransfer_a (s : State) (at2 : BitVec 2) (x : XferX) :
    frameTransfer s (.a at2 x) =
      if s.inX (s.aguX x.a x.mode x.u 0).1 = false then
        .fault (.dataOutside (s.aguX x.a x.mode x.u 0).1)
      else both (.next (xWrites s 0 x)) (xferY s at2) := by
  rw [frameTransfer, xferX_eq]
  cases s.inX (s.aguX x.a x.mode x.u 0).1 <;> rfl

theorem frameTransfer_b (s : State) (at2 : BitVec 2) (x : XferRR) :
    frameTransfer s (.b at2 x) =
      both (.next { regs := if x.l then write32 x.rd (s.r32 x.rs) else [(x.rd, s.r16 x.rs)] })
        (xferY s at2) := by
  rw [frameTransfer, xferRR_eq]

theorem exec_move_mem (s : State) (x : XferX) :
    exec (.move (.mem 15 x)) s = finish s 1 (xferX s 0 x) := by
  change finish s 1 (guarded (s.holds 15) (xferX s 0 x)) = _
  rw [always_holds, guarded_true]

theorem exec_move_memImm (s : State) (r : BitVec 4) (a : BitVec 3) (u de : Bool) (imm : Half) :
    exec (.move (.memImm 15 r a u de imm)) s
      = finish s 2 (xferX s imm ⟨r, a, s.launch.modeImm, u, de⟩) := by
  change finish s 2 (guarded (s.holds 15) (xferX s imm ⟨r, a, s.launch.modeImm, u, de⟩)) = _
  rw [always_holds, guarded_true]

theorem beside_f4 (s : State) (s1 : Opnd) (d : RegNo) (x : XferX) :
    beside s (.f4 s1 d x) = xferX s 0 x := guarded_true _

/-- The frames 8a, 8b and 8d are under no condition. -/
theorem beside_f8_of_holds {s : State} {fr : Frame} (h : frameHolds s fr = true) (slot : SlotPos)
    (m : Bool) (s1 : Opnd) (s2 d : RegNo) :
    beside s (.f8 slot m s1 s2 d fr) = frameTransfer s fr := by
  change guarded (frameHolds s fr) (frameTransfer s fr) = _
  rw [h, guarded_true]

/-- Settles O50: each home of a transfer with data memory is the same X or Y transfer. -/
theorem memoryMoves : Obligations.MemoryMoves := by
  intro r a mode u imm s write check gx
  refine ⟨fun de => ⟨?_, ?_, fun s1 d => ?_⟩, fun at2 => ⟨fun de => ?_, fun rs rd => ?_,
    fun rs rd => ?_, fun slot m s1 s2 d x y => ?_⟩⟩
  · exact (exec_move_mem ..).trans ((congrArg _ (xferX_eq ..)).trans (finish_ite ..))
  · exact (exec_move_memImm ..).trans ((congrArg _ (xferX_eq ..)).trans (finish_ite ..))
  · exact (beside_f4 ..).trans (xferX_eq ..)
  · rw [frameTransfer_a, both_next_xferY]
    rfl
  · exact (frameTransfer_b ..).trans (both_next_xferY ..)
  · exact (frameTransfer_b ..).trans (both_next_xferY ..)
  · exact ⟨beside_f8_of_holds rfl .., beside_f8_of_holds rfl ..⟩

/-! ### The word an instruction stores to -/

/-- A part that runs stores at most to the word address `o`. -/
def StoresOnlyTo (o : Option Half) (p : Part) : Prop :=
  ∀ e, p = .next e → ∀ w, e.mem = some w → o = some w.1

theorem StoresNothing.storesOnlyTo {p : Part} (o : Option Half) (h : StoresNothing p) :
    StoresOnlyTo o p := by
  intro e he w hw
  simp [h e he] at hw

theorem StoresOnlyTo.both {o : Option Half} {p q : Part} (hp : StoresOnlyTo o p)
    (hq : StoresOnlyTo o q) : StoresOnlyTo o (both p q) := by
  intro e he w hw
  obtain ⟨a, b, ha, hb, rfl⟩ := (both_next ..).1 he
  cases hm : a.mem with
  | none => exact hq b hb w (by simpa [Effect.and, hm] using hw)
  | some v => exact hp a ha w (by simpa [Effect.and, hm] using hw)

/-- Under a false condition nothing is stored (R120). -/
theorem StoresOnlyTo.guarded {o : Option Half} {p : Part} (b : Bool) (h : StoresOnlyTo o p) :
    StoresOnlyTo (if b then o else none) (guarded b p) := by
  intro e he
  obtain ⟨hb, he⟩ | ⟨-, rfl⟩ := (guarded_next ..).1 he
  · rw [if_pos hb]
    exact h e he
  · exact nofun

theorem StoresOnlyTo.of_ite {o : Option Half} {p : Part} {b : Bool}
    (h : StoresOnlyTo (if b then o else none) p) : StoresOnlyTo o p := by
  cases b with
  | true => exact h
  | false => exact fun e he w hw => absurd (h e he w hw) nofun

theorem idle_storesNothing : StoresNothing idle := by
  rintro e ⟨⟩
  rfl

theorem aluOf_storesNothing (s : State) (op : Op) (b : Binding) : StoresNothing (aluOf op s b) := by
  intro e he
  obtain ⟨-, -, hmem⟩ := aluOf_writesWithin s op b e he
  exact hmem

theorem xferX_storesOnlyTo (s : State) (imm : Half) (x : XferX) :
    StoresOnlyTo (storeOf s imm x) (xferX s imm x) := by
  cases hde : x.de with
  | true => exact (xferX_storesNothing (by simp [storeOf, hde])).storesOnlyTo _
  | false =>
    intro e he w hw
    obtain ⟨-, rfl⟩ := (xferX_next ..).1 he
    obtain rfl : (_, _) = w := by simpa [hde] using hw
    simp [storeOf, hde]

/-- The word address a frame stores to. -/
def frameStore (s : State) : Frame → Option Half
  | .a _ x => storeOf s 0 x
  | _ => none

theorem formStore_f8 (s : State) (slot : SlotPos) (m : Bool) (s1 : Opnd) (s2 d : RegNo) (fr : Frame) :
    formStore s (.f8 slot m s1 s2 d fr) = frameStore s fr := by
  cases fr <;> rfl

theorem frameTransfer_storesOnlyTo (s : State) (fr : Frame) :
    StoresOnlyTo (frameStore s fr) (frameTransfer s fr) := by
  cases fr with
  | a at2 x => exact (xferX_storesOnlyTo s 0 x).both ((xferY_storesNothing s at2).storesOnlyTo _)
  | b at2 x =>
    exact ((xferRR_storesNothing s x).both (xferY_storesNothing s at2)).storesOnlyTo _
  | c cc rs rd => exact (xferRR_storesNothing s _).storesOnlyTo _
  | d x => exact (xferRC_storesNothing s x).storesOnlyTo _

theorem beside_storesOnlyTo (s : State) (f : Form) : StoresOnlyTo (formStore s f) (beside s f) := by
  cases f with
  | f4 s1 d x => exact ((xferX_storesOnlyTo s 0 x).guarded _).of_ite
  | f8 slot m s1 s2 d fr =>
    rw [formStore_f8]
    exact ((frameTransfer_storesOnlyTo s fr).guarded _).of_ite
  | _ => exact (beside_storesNothing rfl).storesOnlyTo _

/-- Of data memory at most the four bytes of the word at `o` change from `s` to `t`. -/
structure KeepsDataBut (o : Option Half) (s t : State) : Prop where
  same : o = none → t.dmem = s.dmem
  bytes : ∀ a, o = some a → ∀ k : Nat, k < 4 * a.toNat ∨ 4 * a.toNat + 4 ≤ k →
    t.dmem.readByte k = s.dmem.readByte k

theorem KeepsDataBut.of_same {s t : State} (o : Option Half) (h : t.dmem = s.dmem) :
    KeepsDataBut o s t :=
  ⟨fun _ => h, fun _ _ _ _ => by rw [h]⟩

theorem KeepsDataBut.of_ite {o : Option Half} {s t : State} {b : Bool}
    (h : KeepsDataBut (if b then o else none) s t) : KeepsDataBut o s t := by
  cases b with
  | true => exact h
  | false => exact .of_same o (h.same rfl)

/-- The end of an instruction leaves the data memory that the writes make. -/
theorem advance_dmem (len : Half) (ctl : Ctl) (s : State) : (advance len ctl s).dmem = s.dmem := by
  obtain ⟨-, -, -, -, -, -, -, -, -, -, -, -, -, hdmem, -⟩ := advance_keeps len ctl s
  exact hdmem

theorem finish_keepsDataBut {o : Option Half} {s t : State} {len : Half} {p : Part}
    (hp : StoresOnlyTo o p) (h : finish s len p = .next t) : KeepsDataBut o s t := by
  obtain ⟨e, rfl, rfl⟩ := (finish_next ..).1 h
  cases hm : e.mem with
  | none => exact .of_same o (by rw [advance_dmem, commit_dmem, hm])
  | some w =>
    obtain rfl := hp e rfl w hm
    refine ⟨nofun, ?_⟩
    rintro a ⟨⟩ k hk
    rw [advance_dmem, commit_dmem, hm]
    exact readByte_writeWord_other _ _ _ _ hk

theorem runForm_keepsDataBut {s t : State} {op : Op} {f : Form}
    (h : runForm op (aluOf op) f s = .next t) : KeepsDataBut (formStore s f) s t := by
  obtain ⟨e, ex, halu, hb, rfl⟩ := runForm_inv op (aluOf op) f s t h
  have hop : StoresNothing (.next (if opHolds s f then e else {})) := by
    cases hc : opHolds s f with
    | true => exact halu hc ▸ aluOf_storesNothing s op f.binding
    | false => exact idle_storesNothing
  have hex : StoresOnlyTo (formStore s f) (.next ex) := hb ▸ beside_storesOnlyTo s f
  exact finish_keepsDataBut ((hop.storesOnlyTo _).both hex) rfl

theorem runPair_keepsDataBut {s t : State} {i1 : Slot1} {i2 : Slot2} {fr : Frame}
    (h : runPair s i1 i2 fr = .next t) : KeepsDataBut (frameStore s fr) s t := by
  obtain ⟨-, h⟩ := (runFrame_next ..).1 h
  rw [frameParts_eq] at h
  have h1 : StoresNothing (part1 s i1) := aluOf_storesNothing s _ _
  have h2 : StoresNothing (part2 s i2) := aluOf_storesNothing s _ _
  have hrest := ((h2.storesOnlyTo _).both (frameTransfer_storesOnlyTo s fr)).guarded (frameHolds s fr)
  exact finish_keepsDataBut ((h1.storesOnlyTo _).both hrest.of_ite) h

theorem execMove_keepsDataBut {s t : State} {f : MoveForm} (h : exec (.move f) s = .next t) :
    KeepsDataBut (storeAddress s (.move f)) s t := by
  cases f with
  | rr cc x => exact finish_keepsDataBut (((xferRR_storesNothing s x).guarded _).storesOnlyTo _) h
  | rc cc x => exact finish_keepsDataBut (((xferRC_storesNothing s x).guarded _).storesOnlyTo _) h
  | mem cc x => exact finish_keepsDataBut ((xferX_storesOnlyTo s 0 x).guarded _) h
  | memImm cc r a u de imm => exact finish_keepsDataBut ((xferX_storesOnlyTo s imm _).guarded _) h

theorem xferImmRC_storesNothing (s : State) (sc : Bool) (idx : BitVec 5) (imm : Long) :
    StoresNothing (xferImmRC s sc idx imm) := by
  intro e he
  obtain ⟨c, -, -, rfl⟩ := (xferImmRC_next ..).1 he
  rfl

/-- Program flow writes no data memory. -/
theorem flow_dmem {s t u : State} {b : Bool} {len : Half} {ctl : Ctl}
    (h : flow s b len ctl u = .next t) (hu : u.dmem = s.dmem) : t.dmem = s.dmem := by
  obtain ⟨-, rfl⟩ := (flow_next ..).1 h
  cases b with
  | true => exact (advance_dmem ..).trans hu
  | false => exact advance_dmem len .fallthrough s

theorem doLoop_dmem {s t : State} {len : Half} {count : BitVec 14} {last : Half}
    (h : doLoop s len count last = .next t) : t.dmem = s.dmem := by
  obtain ⟨-, -, rfl⟩ := (doLoop_next ..).1 h
  exact advance_dmem ..

/-- An instruction changes of data memory at most the word at its store address. -/
theorem exec_keepsDataBut {i : Instr} {s t : State} (h : exec i s = .next t) :
    KeepsDataBut (storeAddress s i) s t := by
  cases hp : partsOf i with
  | some p =>
    obtain ⟨op, f⟩ := p
    rw [exec_of_parts i op f s hp] at h
    have hst : storeAddress s i = formStore s f := by simp only [storeAddress, hp]
    exact hst ▸ runForm_keepsDataBut h
  | none =>
    cases i with
    | move f => exact execMove_keepsDataBut h
    | move16Agu d imm =>
      exact finish_keepsDataBut ((xferImmRC_storesNothing s false d _).storesOnlyTo _) h
    | move16Pcu d imm =>
      exact finish_keepsDataBut ((xferImmRC_storesNothing s true d _).storesOnlyTo _) h
    | nop => exact finish_keepsDataBut (len := 1) (idle_storesNothing.storesOnlyTo _) h
    | frame8a | frame8b | frame8c | frame8d => exact runPair_keepsDataBut h
    | b | bd | bs | j | jd | js | rts | stop | enddo => exact .of_same _ (flow_dmem h rfl)
    | doforAbs | doforRel => exact .of_same _ (flow_dmem h rfl)
    | doNAbs | doNRel | doDAbs | doDRel => exact .of_same _ (doLoop_dmem h)
    | _ => cases hp

/-- A stored word is read back. -/
theorem commit_data_of_mem {s : State} {e : Effect} {a : Half} {v : Long} (hs : s.dmem.wf = true)
    (h : e.mem = some (a, v)) : (commit s e).data a = v := by
  rw [State.data, commit_dmem, h]
  exact readWord_writeWord_same _ _ _ hs

/-- Settles O51: by what each kind of instruction stores, and the laws of a word in memory. -/
theorem memoryFrame : Obligations.MemoryFrame := by
  refine ⟨fun i s t h => ?_, fun s e a v hwf hm => ?_⟩
  · have hk := exec_keepsDataBut h
    exact ⟨hk.same, hk.bytes⟩
  · simp only [State.wf, Bool.and_eq_true] at hwf
    obtain ⟨-, hdmem⟩ := hwf
    exact commit_data_of_mem hdmem hm

/-! ### What a transfer leaves -/

/-- A transfer that runs writes only data registers of `dests`, only control registers of `written`,
and no flag. -/
def TransfersWithin (dests : List RegNo) (written : List CReg) (p : Part) : Prop :=
  ∀ e, p = .next e → (∀ n ∈ e.regs.map Prod.fst, n ∈ dests)
    ∧ (∀ c ∈ e.ctrl.map Prod.fst, c ∈ written) ∧ e.flags = []

theorem TransfersWithin.guarded {dests : List RegNo} {written : List CReg} {p : Part} (b : Bool)
    (h : TransfersWithin dests written p) : TransfersWithin dests written (guarded b p) := by
  intro e he
  obtain ⟨-, he⟩ | ⟨-, rfl⟩ := (guarded_next ..).1 he
  · exact h e he
  · exact ⟨nofun, nofun, rfl⟩

theorem xferRR_within (s : State) (x : XferRR) :
    TransfersWithin (if x.l then pairOf x.rd else [x.rd]) [] (xferRR s x) := by
  rw [xferRR_eq]
  rintro e ⟨⟩
  refine ⟨?_, nofun, rfl⟩
  cases x.l <;> exact fun _ => id

theorem xferX_within (s : State) (imm : Half) (x : XferX) :
    TransfersWithin (if x.de then pairOf (longReg x.r) else [])
      ((s.aguX x.a x.mode x.u imm).2.map Prod.fst) (xferX s imm x) := by
  intro e he
  obtain ⟨-, rfl⟩ := (xferX_next ..).1 he
  cases x.de <;> exact ⟨fun _ => id, fun _ => id, rfl⟩

theorem xferRC_within (s : State) (x : XferRC) :
    TransfersWithin
      (if x.de then (if (s.rcAt x.sc x.rc).any isLongReg then pairOf x.r else [x.r]) else [])
      (if x.de then [] else (s.rcAt x.sc x.rc).toList) (xferRC s x) := by
  intro e he
  obtain ⟨c, hc, -, hload, hstore⟩ := xferRC_next s x e he
  rw [hc]
  cases hde : x.de with
  | true =>
    rw [hload hde]
    refine ⟨?_, nofun, rfl⟩
    cases hl : isLongReg c <;> simp [hl, write32, pairOf]
  | false =>
    obtain ⟨-, rfl⟩ := hstore hde
    exact ⟨nofun, fun _ => id, rfl⟩

theorem xferImmRC_within (s : State) (sc : Bool) (idx : BitVec 5) (imm : Long) :
    TransfersWithin [] (s.rcAt sc idx).toList (xferImmRC s sc idx imm) := by
  intro e he
  obtain ⟨c, hc, -, rfl⟩ := (xferImmRC_next ..).1 he
  rw [hc]
  exact ⟨nofun, fun _ => id, rfl⟩

/-- What an instruction that is one transfer leaves, from what the transfer may write. -/
theorem finish_keeps {dests : List RegNo} {written : List CReg} {s t : State} {len : Half} {p : Part}
    (hp : TransfersWithin dests written p) (h : finish s len p = .next t) :
    (∀ n, n ∉ dests → t.r16 n = s.r16 n) ∧ keepsBut written s t := by
  obtain ⟨e, rfl, rfl⟩ := (finish_next ..).1 h
  obtain ⟨hregs, hctrl, hflags⟩ := hp e rfl
  refine ⟨fun n hn => ?_, keepsBut_advance_commit len
    (fun c hc => Effect.ctrlVals_eq_nil fun hm => hc (hctrl c hm)) fun _ => hflags⟩
  rw [advance_r16]
  exact commit_r16_of_not_mem fun hm => hn (hregs n hm)

theorem not_mem_pairOf {n r : RegNo} : n ∉ pairOf r ↔ n ≠ r ∧ n ≠ r + 1 := by
  simp [pairOf]

/-- A register that a transfer of 32 or of 16 bits to `r` does not name. -/
theorem not_mem_pair_or_single {n r : RegNo} {long : Bool} (hlo : n ≠ r)
    (hhi : long = true → n ≠ r + 1) : n ∉ if long then pairOf r else [r] := by
  cases long with
  | true => exact not_mem_pairOf.mpr ⟨hlo, hhi rfl⟩
  | false => exact fun hm => hlo (List.mem_singleton.mp hm)

/-- The data registers are those that `State.r16` reads. -/
theorem regs_eq_of_r16 {s t : State} (h : ∀ n, t.r16 n = s.r16 n) : t.regs = s.regs := by
  ext i hi : 1
  exact h (BitVec.ofNatLT i hi)

/-- The upper register of the pair that a four-bit field names (R21). -/
theorem longReg_succ (r : BitVec 4) : longReg r + 1 = r ++ 1#1 := by
  revert r
  decide

/-- The frame of MOVE with data memory, from the X transfer it makes under its condition. -/
theorem finish_xferX_keeps {s t : State} {b : Bool} {len imm : Half} {x : XferX}
    (h : finish s len (guarded b (xferX s imm x)) = .next t) :
    (∀ n, x.de = false ∨ (n ≠ x.r ++ 0#1 ∧ n ≠ x.r ++ 1#1) → t.r16 n = s.r16 n)
      ∧ keepsBut ((s.aguX x.a x.mode x.u imm).2.map Prod.fst) s t
      ∧ KeepsDataBut (storeOf s imm x) s t := by
  obtain ⟨hregs, hkeeps⟩ := finish_keeps ((xferX_within s imm x).guarded b) h
  refine ⟨fun n hn => hregs n ?_, hkeeps,
    (finish_keepsDataBut ((xferX_storesOnlyTo s imm x).guarded b) h).of_ite⟩
  obtain hde | ⟨hlo, hhi⟩ := hn
  · simp [hde]
  · rw [← longReg_succ] at hhi
    split
    · exact not_mem_pairOf.mpr ⟨hlo, hhi⟩
    · exact List.not_mem_nil

/-- Settles O57: each MOVE is one transfer, under its condition, which writes within what it names. -/
theorem moveFrame : Obligations.MoveFrame := by
  intro cc s t keepsMemory memory
  have hmemory {len imm : Half} {x : XferX}
      (h : finish s len (guarded (s.holds cc) (xferX s imm x)) = .next t) : memory x imm := by
    obtain ⟨hregs, hkeeps, hdata⟩ := finish_xferX_keeps h
    refine ⟨hregs, hkeeps, ?_⟩
    simp only [keepsMemory]
    cases hst : storeOf s imm x with
    | none => exact hdata.same hst
    | some w => exact hdata.bytes w hst
  have himm {sc : Bool} {idx : BitVec 5} {v : Long}
      (h : finish s 1 (xferImmRC s sc idx v) = .next t) :
      t.regs = s.regs ∧ keepsBut (s.rcAt sc idx).toList s t := by
    obtain ⟨hregs, hkeeps⟩ := finish_keeps (xferImmRC_within s sc idx v) h
    exact ⟨regs_eq_of_r16 fun n => hregs n List.not_mem_nil, hkeeps⟩
  refine ⟨fun x h => ?_, fun x h => ?_, fun x h => hmemory h, fun r a u de imm h => hmemory h,
    fun idx imm => ⟨fun h => ?_, fun h => ?_⟩, fun n mode u imm => ⟨fun hmode => ?_, fun c hc => ?_⟩⟩
  · obtain ⟨hregs, hkeeps⟩ := finish_keeps ((xferRR_within s x).guarded _) h
    exact ⟨fun n hlo hhi => hregs n (not_mem_pair_or_single hlo hhi), hkeeps,
      (exec_keepsDataBut h).same rfl⟩
  · obtain ⟨hregs, hkeeps⟩ := finish_keeps ((xferRC_within s x).guarded _) h
    refine ⟨fun n hn => hregs n ?_, hkeeps, (exec_keepsDataBut h).same rfl⟩
    obtain hde | ⟨hlo, hhi⟩ := hn
    · simp [hde]
    · split
      · exact not_mem_pair_or_single hlo hhi
      · exact List.not_mem_nil
  · obtain ⟨hregs, hkeeps⟩ := himm h
    exact ⟨hregs, hkeeps, (exec_keepsDataBut h).same rfl⟩
  · obtain ⟨hregs, hkeeps⟩ := himm h
    exact ⟨hregs, hkeeps, (exec_keepsDataBut h).same rfl⟩
  · rw [aguX_writes_nothing n u imm hmode, List.map_nil]
  · obtain ⟨w, hw, rfl⟩ := List.mem_map.mp hc
    exact aguX_writes s n mode u imm w hw

end Sys2Proof.Machine

/-! The fields of an encoded word and the operations' codes (spec/30_encoding.md R100 to R127): reading
a field of joined bit fields gives the field back, no two operations share a code, and a lookup finds
the operation whose code the bits are. -/

namespace Sys2Proof

/-! ### Joined bit fields -/

section Fields

variable {v w : Nat} (hi : BitVec v) (lo : BitVec w) {i n : Nat}

/-- A field that lies in the lower part. (`no_index`: the width of a written-out word is a number, not
a sum, and simp is to find the lemma all the same.) -/
@[simp] theorem field_low (h : i + n ≤ w) :
    (no_index (hi ++ lo)).extractLsb' i n = lo.extractLsb' i n :=
  BitVec.extractLsb'_append_eq_of_add_le h

/-- A field that lies in the upper part. -/
@[simp] theorem field_high (h : w ≤ i) :
    (no_index (hi ++ lo)).extractLsb' i n = hi.extractLsb' (i - w) n :=
  BitVec.extractLsb'_append_eq_of_le h

/-- A bit that lies in the lower part. -/
@[simp] theorem bit_low (h : i < w) : (no_index (hi ++ lo)).getLsbD i = lo.getLsbD i := by
  rw [BitVec.getLsbD_append, if_pos h]

/-- A bit that lies in the upper part. -/
@[simp] theorem bit_high (h : w ≤ i) : (no_index (hi ++ lo)).getLsbD i = hi.getLsbD (i - w) := by
  rw [BitVec.getLsbD_append, if_neg (Nat.not_lt.2 h)]

end Fields

/-- The bit of a one-bit field. -/
@[simp] theorem bit_ofBool (b : Bool) : (BitVec.ofBool b).getLsbD 0 = b := by cases b <;> rfl

/-- A field of a field. -/
theorem field_field {w : Nat} (x : BitVec w) {i n j m : Nat} (h : j + m ≤ n) :
    (x.extractLsb' i n).extractLsb' j m = x.extractLsb' (i + j) m := by
  ext k hk
  simp [show j + k < n by omega, Nat.add_assoc]

/-! ### The operations and their codes -/

/-- `Op.all` leaves no operation out. -/
theorem Op.mem_all (op : Op) : op ∈ Op.all :=
  List.mem_of_getElem? (i := op.ctorIdx) (by cases op <;> rfl)

/-- Seven opcode bits and a `#` bit as one number. -/
def codeCell (bits : BitVec 7) (hash : Bool) : Nat := 2 * bits.toNat + hash.toNat

/-- The opcode bits and `#` bits that a code stands for: a shift-type code takes both values of `#`
(spec/30_encoding.md R118). -/
def OpCode.cells : OpCode → List Nat
  | .op1 c => [codeCell c false]
  | .op2 c h => [codeCell (0b11#2 ++ c) h]
  | .shift c => [codeCell (0b11#2 ++ c) false, codeCell (0b11#2 ++ c) true]

theorem codeCell_inj {bits bits' : BitVec 7} {hash hash' : Bool} :
    codeCell bits hash = codeCell bits' hash' ↔ bits = bits' ∧ hash = hash' := by
  unfold codeCell
  rw [← BitVec.toNat_inj]
  cases hash <;> cases hash' <;> simp <;> omega

/-- A code reads exactly its own cells. -/
theorem OpCode.read_isSome {c : OpCode} {bits : BitVec 7} {hash : Bool} :
    (c.read bits hash).isSome = true ↔ codeCell bits hash ∈ c.cells := by
  cases c with
  | op1 c =>
    cases hash <;> simp [OpCode.read, OpCode.bits, OpCode.cells, codeCell_inj, eq_comm (a := c)]
  | op2 c h =>
    simp only [OpCode.read, OpCode.bits, OpCode.cells, List.mem_singleton, codeCell_inj]
    by_cases hb : 3#2 ++ c = bits
    · by_cases hh : hash = h <;> simp [hb, hh]
    · simp [hb, eq_comm (a := bits)]
  | shift c =>
    cases hash <;>
      simp [OpCode.read, OpCode.bits, OpCode.cells, codeCell_inj, eq_comm (a := 3#2 ++ c)]

/-- The cells of some operations under the codes that `f` gives them. -/
def cellsOf (f : Op → Option OpCode) (ops : List Op) : List Nat :=
  ops.flatMap fun op => (f op).elim [] OpCode.cells

theorem mem_cellsOf {f : Op → Option OpCode} {op : Op} {c : OpCode} {k : Nat} (hf : f op = some c)
    (hk : k ∈ c.cells) : k ∈ cellsOf f Op.all :=
  List.mem_flatMap.2 ⟨op, op.mem_all, by rwa [hf]⟩

/-- The codes of R126 and R127 are all different. -/
theorem nodup_cells7 : (cellsOf (Op.code .reset) Op.all).Nodup := by
  have hfirst : (cellsOf (Op.code .reset) (Op.all1 ++ Op.all2)).Nodup := by decide
  have hlast : (cellsOf (Op.code .reset) (Op.all3 ++ Op.all4)).Nodup := by decide
  have hapart : ∀ k ∈ cellsOf (Op.code .reset) (Op.all1 ++ Op.all2),
      k ∉ cellsOf (Op.code .reset) (Op.all3 ++ Op.all4) := by decide
  have hall : cellsOf (Op.code .reset) Op.all
      = cellsOf (Op.code .reset) (Op.all1 ++ Op.all2)
        ++ cellsOf (Op.code .reset) (Op.all3 ++ Op.all4) := by
    simp only [cellsOf, Op.all, List.flatMap_append, List.append_assoc]
  rw [hall]
  exact List.nodup_append.2 ⟨hfirst, hlast, fun k hk k' hk' h => hapart k hk (h ▸ hk')⟩

/-- The codes of the OP2 slot are all different (R125, R127). -/
theorem nodup_cells2 : (cellsOf (Op.code2 .reset) Op.all).Nodup := by decide

/-! ### No two operations share a code -/

/-- Two operations that read the same opcode bits and `#` bit are the same one. -/
def CodesApart (f : Op → Option OpCode) : Prop :=
  ∀ op op' c d bits hash, f op = some c → f op' = some d → (c.read bits hash).isSome = true →
    (d.read bits hash).isSome = true → op' = op

/-- A code reads its own opcode bits only. -/
theorem OpCode.bits_of_read {c : OpCode} {bits : BitVec 7} {hash : Bool}
    (h : (c.read bits hash).isSome = true) : c.bits = bits := by
  unfold OpCode.read at h
  by_cases hb : c.bits = bits
  · exact hb
  · simp [hb] at h

/-- What `codeApart` checks of one operation. -/
theorem eq_of_codeApart {f : Op → Option OpCode} {op op' : Op} {c d : OpCode} {bits : BitVec 7}
    {hash : Bool} (hop : codeApart f op = true) (hc : f op = some c) (hd : f op' = some d)
    (hrc : (c.read bits hash).isSome = true) (hrd : (d.read bits hash).isSome = true) : op' = op := by
  have hover : c.overlaps d = true := by
    rw [OpCode.overlaps, OpCode.bits_of_read hrc, List.any_eq_true]
    exact ⟨hash, by cases hash <;> simp, by simp [hrc, hrd]⟩
  have hall : ∀ op' : Op, op' = op ∨ (∀ d, f op' = some d → c.overlaps d = false) := by
    intro op'
    have h := hop
    simp only [codeApart, hc] at h
    have h := List.all_eq_true.1 h op' op'.mem_all
    cases hf : f op' <;> simp_all
  obtain h | h := hall op'
  · exact h
  · simp [h d hd] at hover

/-- The codes of the table are apart, and so is each other code that `codeApart` has checked. -/
theorem codesApart_of_table {f g : Op → Option OpCode} (hg : (cellsOf g Op.all).Nodup)
    (hf : ∀ op, f op = g op ∨ codeApart f op = true) : CodesApart f := by
  intro op op' c d bits hash hc hd hrc hrd
  obtain hop | hop := hf op
  · obtain hop' | hop' := hf op'
    · by_contra hne
      have hsymm : Std.Symm (Function.onFun List.Disjoint fun op => (g op).elim [] OpCode.cells) :=
        ⟨fun _ _ h => h.symm⟩
      have hdis := (List.nodup_flatMap.1 hg).2.forall op.mem_all op'.mem_all (Ne.symm hne)
      simp only [Function.onFun, ← hop, ← hop', hc, hd, Option.elim] at hdis
      exact hdis (OpCode.read_isSome.1 hrc) (OpCode.read_isSome.1 hrd)
    · exact (eq_of_codeApart hop' hd hc hrd hrc).symm
  · exact eq_of_codeApart hop hc hd hrc hrd

/-- The code of an operation that the tables assign comes from the tables. -/
theorem code_of_assigned {op : Op} (h : op ∉ [Op.cvfe, .mpf2s, .mpyl]) (l : Launch) :
    op.code l = op.info.code := by
  unfold Op.code
  split <;> simp_all

/-- The OP2 code of an operation that the tables assign is the same in every launch. -/
theorem code2_of_assigned {op : Op} (h : op ∉ [Op.mpf2s, .mpyl, .addl]) (l : Launch) :
    op.code2 l = op.code2 .reset := by
  by_cases hc : op = .cvfe
  · subst hc
    cases hl : l.cvfeOpcode <;> simp [Op.code2, Op.code, hl, Launch.reset]
  · have hcode := code_of_assigned (op := op) (by simp_all)
    unfold Op.code2
    split <;> simp_all

/-- An operation with a code in the tables is none of the three whose code is lost. -/
theorem assigned_of_code {op : Op} {c : OpCode} (h : op.info.code = some c) :
    op ∉ [Op.cvfe, .mpf2s, .mpyl] := by
  intro hop
  simp only [List.mem_cons, List.not_mem_nil, or_false] at hop
  obtain rfl | rfl | rfl := hop <;> cases h

/-- What `Launch.ok` says of the codes (spec/00_scope.md R4). -/
structure Launch.CodesOk (l : Launch) : Prop where
  apart7 : CodesApart (Op.code l)
  apart2 : CodesApart (Op.code2 l)
  cvfe_ne_nop : l.cvfeOpcode ≠ some 0b1000000#7
  cvfe_ne_move : l.cvfeOpcode ≠ some 0b1100111#7
  mpf2s_ne_move : l.mpf2sCode ≠ some (0b00111#5, false)
  mpyl_ne_move : l.mpylCode ≠ some (0b00111#5, false)
  rts : l.rtsWord.all rtsApart = true

theorem Launch.codesOk {l : Launch} (h : l.ok = true) : l.CodesOk := by
  simp only [Launch.ok, Bool.and_eq_true, bne_iff_ne, ne_eq] at h
  obtain ⟨⟨⟨⟨⟨⟨⟨⟨⟨h7, h2⟩, hnop⟩, hmove⟩, hmpf2s⟩, hmpyl⟩, hrts⟩, -⟩, -⟩, -⟩ := h
  refine ⟨codesApart_of_table nodup_cells7 fun op => ?_,
    codesApart_of_table nodup_cells2 fun op => ?_, hnop, hmove, hmpf2s, hmpyl, hrts⟩
  · by_cases hop : op ∈ [Op.cvfe, .mpf2s, .mpyl]
    · exact .inr (List.all_eq_true.1 h7 op hop)
    · exact .inl (by rw [code_of_assigned hop, code_of_assigned hop])
  · by_cases hop : op ∈ [Op.mpf2s, .mpyl, .addl]
    · exact .inr (List.all_eq_true.1 h2 op hop)
    · exact .inl (code2_of_assigned hop l)

/-! ### Looking up an operation -/

/-- A search that only one entry answers finds that entry. -/
theorem findSome?_of_unique {α β : Type} {f : α → Option β} {xs : List α} {x : α} {y : β}
    (hx : x ∈ xs) (hy : f x = some y) (huniq : ∀ z, (f z).isSome = true → z = x) :
    xs.findSome? f = some y := by
  obtain ⟨as, bs, rfl, hnot⟩ := List.eq_append_cons_of_mem hx
  refine List.findSome?_eq_some_iff.2 ⟨as, x, bs, rfl, hy, fun z hz => ?_⟩
  cases hf : f z with
  | none => rfl
  | some b => exact absurd (huniq z (by simp [hf]) ▸ hz) hnot

/-- An operation answers a lookup when it has a code that reads the bits. -/
theorem answers_iff {o : Option OpCode} {bits : BitVec 7} {hash : Bool} :
    (o.bind fun c => c.read bits hash).isSome = true
      ↔ ∃ c, o = some c ∧ (c.read bits hash).isSome = true := by
  cases o <;> simp

/-- The search of `lookup7` and `lookup2`, for any assignment of codes. -/
def searchCode (f : Op → Option OpCode) (bits : BitVec 7) (hash : Bool) : Option (Op × Bool) :=
  Op.all.findSome? fun op => ((f op).bind fun c => c.read bits hash).map fun imm => (op, imm)

theorem lookup7_eq (l : Launch) (bits : BitVec 7) (hash : Bool) :
    lookup7 l bits hash = searchCode (Op.code l) bits hash := rfl

theorem lookup2_eq (l : Launch) (bits : BitVec 5) (hash : Bool) :
    lookup2 l bits hash = searchCode (Op.code2 l) (0b11#2 ++ bits) hash := rfl

/-- Where the codes are apart, an operation is found under its own code. -/
theorem searchCode_of_read {f : Op → Option OpCode} (hf : CodesApart f) {op : Op} {c : OpCode}
    {bits : BitVec 7} {hash imm : Bool} (hc : f op = some c) (hr : c.read bits hash = some imm) :
    searchCode f bits hash = some (op, imm) := by
  refine findSome?_of_unique op.mem_all (by simp [hc, hr]) fun op' h => ?_
  obtain ⟨d, hd, hrd⟩ := answers_iff.1 (Option.isSome_map.symm.trans h)
  exact hf op op' c d bits hash hc hd (by simp [hr]) hrd

/-- What is found has a code that reads the bits. -/
theorem searchCode_eq_some {f : Op → Option OpCode} {op : Op} {bits : BitVec 7} {hash imm : Bool}
    (h : searchCode f bits hash = some (op, imm)) :
    ∃ c, f op = some c ∧ c.read bits hash = some imm := by
  obtain ⟨op', -, h⟩ := List.exists_of_findSome?_eq_some h
  obtain ⟨i, hi, heq⟩ := Option.map_eq_some_iff.1 h
  cases heq
  exact Option.bind_eq_some_iff.1 hi

/-- A code in the OP1 slot is the operation's OP1 code. -/
theorem code1_eq_some {l : Launch} {op : Op} {c : OpCode} :
    op.code1 l = some c ↔ ∃ b, c = .op1 b ∧ op.code l = some (.op1 b) := by
  unfold Op.code1
  split <;> simp_all [eq_comm]

/-- An operation with an OP1 code is found in the OP1 slot. -/
theorem lookup1_of_code {l : Launch} (hl : CodesApart (Op.code l)) {op : Op} {b : BitVec 7}
    (hb : b ≠ 0b1000000#7) (hc : op.code l = some (.op1 b)) : lookup1 l b = some op := by
  have hread : (OpCode.read (.op1 b) b false).isSome = true := by simp [OpCode.read, OpCode.bits]
  have hmine : ((op.code1 l).bind fun c => c.read b false).isSome = true := by
    rw [code1_eq_some.2 ⟨b, rfl, hc⟩]
    exact hread
  have huniq (op' : Op) (h : ((op'.code1 l).bind fun c => c.read b false).isSome = true) :
      op' = op := by
    obtain ⟨d, hd, hrd⟩ := answers_iff.1 h
    obtain ⟨b', rfl, hd'⟩ := code1_eq_some.1 hd
    exact hl op op' _ _ b false hc hd' hread hrd
  rw [lookup1, if_neg hb]
  cases hf : Op.all.find? fun op => ((op.code1 l).bind fun c => c.read b false).isSome with
  | none => exact absurd hmine (List.find?_eq_none.1 hf op op.mem_all)
  | some op' =>
    have hop' := List.find?_some hf
    rw [huniq op' hop']

/-- What the OP1 slot finds: NOP under its second opcode (D25), or an operation with that OP1 code. -/
theorem lookup1_eq_some {l : Launch} {op : Op} {bits : BitVec 7} (h : lookup1 l bits = some op) :
    (bits = 0b1000000#7 ∧ op = .nop) ∨ op.code l = some (.op1 bits) := by
  unfold lookup1 at h
  split at h
  · rename_i hb
    exact .inl ⟨hb, (Option.some.inj h).symm⟩
  · have hop := List.find?_some h
    obtain ⟨c, hc, hr⟩ := answers_iff.1 hop
    obtain ⟨b, rfl, hc'⟩ := code1_eq_some.1 hc
    exact .inr (by rw [hc', ← OpCode.bits_of_read hr, OpCode.bits])

/-! ### What the tables assign -/

/-- The one cell of an OP2 code. -/
theorem mem_cells_op2 {b : BitVec 5 × Bool} {bits : BitVec 7} {hash : Bool}
    (h : codeCell bits hash ∈ (OpCode.op2 b.1 b.2).cells) : bits = 0b11#2 ++ b.1 ∧ b = (b.1, hash) := by
  obtain ⟨rfl, rfl⟩ := codeCell_inj.1 (List.mem_singleton.1 h)
  exact ⟨rfl, rfl⟩

/-- A code that reads some opcode bits comes from the tables or from the launch. -/
theorem assigned_or_open {l : Launch} {op : Op} {c : OpCode} {bits : BitVec 7} {hash : Bool}
    (hc : op.code l = some c) (hr : (c.read bits hash).isSome = true) :
    codeCell bits hash ∈ cellsOf (Op.code .reset) Op.all
      ∨ (l.cvfeOpcode = some bits ∧ hash = false)
      ∨ ∃ b, bits = 0b11#2 ++ b ∧ (l.mpf2sCode = some (b, hash) ∨ l.mpylCode = some (b, hash)) := by
  have hcell := OpCode.read_isSome.1 hr
  by_cases hop : op ∈ [Op.cvfe, .mpf2s, .mpyl]
  · right
    simp only [List.mem_cons, List.not_mem_nil, or_false] at hop
    obtain rfl | rfl | rfl := hop <;> obtain ⟨b, hb, rfl⟩ := Option.map_eq_some_iff.1 hc
    · obtain ⟨rfl, rfl⟩ := codeCell_inj.1 (List.mem_singleton.1 hcell)
      exact .inl ⟨hb, rfl⟩
    · obtain ⟨hbits, heq⟩ := mem_cells_op2 hcell
      exact .inr ⟨b.1, hbits, .inl (hb.trans (congrArg some heq))⟩
    · obtain ⟨hbits, heq⟩ := mem_cells_op2 hcell
      exact .inr ⟨b.1, hbits, .inr (hb.trans (congrArg some heq))⟩
  · rw [code_of_assigned hop, ← code_of_assigned hop .reset] at hc
    exact .inl (mem_cellsOf hc hcell)

/-- The OP2 slot holds no OP1 code. -/
theorem code2_ne_op1 (l : Launch) (op : Op) (b : BitVec 7) : op.code2 l ≠ some (.op1 b) := by
  unfold Op.code2
  split
  case h_6 => split <;> simp_all
  all_goals simp

/-- In the OP2 slot MPF2S and MPYL keep their codes. -/
theorem code2_of_open {l : Launch} {op : Op} (h : op ∈ [Op.mpf2s, .mpyl]) :
    op.code2 l = op.code l := by
  simp only [List.mem_cons, List.not_mem_nil, or_false] at h
  obtain rfl | rfl := h
  · cases hm : l.mpf2sCode <;> simp [Op.code2, Op.code, hm]
  · cases hm : l.mpylCode <;> simp [Op.code2, Op.code, hm]

/-- A code of the OP2 slot comes from the tables or from the launch. -/
theorem assigned2_or_open {l : Launch} {op : Op} {c : OpCode} {bits : BitVec 5} {hash : Bool}
    (hc : op.code2 l = some c) (hr : (c.read (0b11#2 ++ bits) hash).isSome = true) :
    codeCell (0b11#2 ++ bits) hash ∈ cellsOf (Op.code2 .reset) Op.all
      ∨ l.mpf2sCode = some (bits, hash) ∨ l.mpylCode = some (bits, hash)
      ∨ l.addlOp2Code = some (bits, hash) := by
  have hcell := OpCode.read_isSome.1 hr
  have hopen {o : Option (BitVec 5 × Bool)} (h : (o.map fun b => OpCode.op2 b.1 b.2) = some c) :
      o = some (bits, hash) := by
    obtain ⟨b, rfl, rfl⟩ := Option.map_eq_some_iff.1 h
    obtain ⟨hbits, heq⟩ := mem_cells_op2 hcell
    rw [heq, (BitVec.append_right_inj _).1 hbits]
  by_cases hop : op ∈ [Op.mpf2s, .mpyl, .addl]
  · right
    simp only [List.mem_cons, List.not_mem_nil, or_false] at hop
    obtain rfl | rfl | rfl := hop
    · exact .inl (hopen ((code2_of_open (by simp)).symm.trans hc))
    · exact .inr (.inl (hopen ((code2_of_open (by simp)).symm.trans hc)))
    · exact .inr (.inr (hopen hc))
  · rw [code2_of_assigned hop] at hc
    exact .inl (mem_cellsOf hc hcell)

/-- No operation has the opcode of MOVE with `#` = 0. -/
theorem code_ne_move {l : Launch} (hl : l.ok = true) {op : Op} {c : OpCode} (hc : op.code l = some c) :
    c.read 0b1100111#7 false = none := by
  have hok := Launch.codesOk hl
  cases hr : c.read 0b1100111#7 false with
  | none => rfl
  | some imm =>
    obtain h | ⟨h, -⟩ | ⟨b, hb, h⟩ := assigned_or_open hc (Option.isSome_of_eq_some hr)
    · exact absurd h (by decide)
    · exact absurd h hok.cvfe_ne_move
    · obtain rfl : b = 0b00111#5 := (BitVec.append_right_inj (0b11#2)).1 hb.symm
      exact absurd h (not_or.2 ⟨hok.mpf2s_ne_move, hok.mpyl_ne_move⟩)

/-- No operation has the second opcode of NOP in the OP1 slot (R126, D25). -/
theorem code_ne_nop {l : Launch} (hl : l.ok = true) {op : Op} {b : BitVec 7}
    (hc : op.code l = some (.op1 b)) : b ≠ 0b1000000#7 := by
  rintro rfl
  obtain h | ⟨h, -⟩ | ⟨b, hb, -⟩ := assigned_or_open (bits := 0b1000000#7) (hash := false) hc
    (by decide)
  · exact absurd h (by decide)
  · exact absurd h (Launch.codesOk hl).cvfe_ne_nop
  · have hhigh := congrArg (BitVec.extractLsb' 5 2) hb
    rw [BitVec.extractLsb'_append_eq_left] at hhigh
    exact absurd hhigh (by decide)

/-- An operation printed for a format without `#` bit has a code that the tables assign and that is
read with `#` = 0; in formats 2 and 3 it is no code of another instruction (R126, R127). -/
def codeSuits (op : Op) : Bool :=
  op.info.code.any fun c =>
    c.read c.bits false == some false
      && (!op.info.formats.contains .f2 || c.bits != 0b0001100#7 && c.bits != 0b0001101#7)
      && (!op.info.formats.contains .f3 || !format3Opcodes.contains c.bits)

theorem codeSuits_of_format {op : Op} (h : op.info.formats.contains .f2 = true
    ∨ op.info.formats.contains .f3 = true ∨ op.info.formats.contains .f7 = true) :
    codeSuits op = true := by
  revert h
  cases op <;> decide

end Sys2Proof

/-! The decoder and the encoder (spec/30_encoding.md R100 to R116, R131, R132): what the decoder reads in
each word that the encoder writes, so decoding undoes encoding, and how many words there are. A word is
read format by format; what its operation and its fields are then follows from the codes being apart
and from the checks of a well-formed instruction. -/

namespace Sys2Proof

open Machine

/-! ### Which format a word is in (R101) -/

section Formats

variable {l : Launch} {w w2 : Long}

theorem decode_of_format8 (h : w.extractLsb' 7 4 = 0b0000#4) : decode l w w2 = decode8 l w w2 := if_pos h

theorem decode_of_format1 (h : w.extractLsb' 7 4 = 0b0001#4) : decode l w w2 = decode1 l w := by
  simp [decode, h]

theorem decode_of_format2 (h : w.extractLsb' 7 4 = 0b0010#4) : decode l w w2 = decode2 l w w2 := by
  simp [decode, h]

theorem decode_of_format3 (h : w.extractLsb' 7 4 = 0b0011#4) : decode l w w2 = decode3 l w := by
  simp [decode, h]

/-- The upper two bits of the format code, for the formats 4 and 6. -/
theorem format_high : w.extractLsb' 9 2 = (w.extractLsb' 7 4).extractLsb' 2 2 :=
  (field_field w (i := 7) (j := 2) (by decide : 2 + 2 ≤ 4)).symm

/-- The upper three bits of the format code, for format 5. -/
theorem format_high3 : w.extractLsb' 8 3 = (w.extractLsb' 7 4).extractLsb' 1 3 :=
  (field_field w (i := 7) (j := 1) (by decide : 1 + 3 ≤ 4)).symm

theorem short_formats : ∀ f : BitVec 4, f ∈ [0b0000#4, 0b0001#4, 0b0010#4, 0b0011#4] ↔
    f.extractLsb' 2 2 = 0b00#2 := by decide

theorem format5_high : ∀ f : BitVec 4, f.extractLsb' 1 3 = 0b110#3 → f.extractLsb' 2 2 = 0b11#2 := by
  decide

theorem decode_of_format_high (h : w.extractLsb' 9 2 ≠ 0b00#2) : decode l w w2
    = if w.extractLsb' 9 2 = 0b01#2 then decode4 l w w2
      else if w.extractLsb' 9 2 = 0b10#2 then decode6 l w
      else if w.extractLsb' 8 3 = 0b110#3 then decode5 l w
      else if w.extractLsb' 7 4 = 0b1110#4 then decode7 l w w2
      else .error .formatUnused := by
  rw [format_high, ne_eq, ← short_formats] at h
  simp only [List.mem_cons, List.not_mem_nil, or_false, not_or] at h
  obtain ⟨h0, h1, h2, h3⟩ := h
  simp only [decode, h0, h1, h2, h3, if_false]

theorem decode_of_format4 (h : w.extractLsb' 9 2 = 0b01#2) : decode l w w2 = decode4 l w w2 := by
  rw [decode_of_format_high (by rw [h]; decide), if_pos h]

theorem decode_of_format6 (h : w.extractLsb' 9 2 = 0b10#2) : decode l w w2 = decode6 l w := by
  rw [decode_of_format_high (by rw [h]; decide), h]
  rfl

theorem decode_of_format5 (h : w.extractLsb' 8 3 = 0b110#3) : decode l w w2 = decode5 l w := by
  have hhigh : w.extractLsb' 9 2 = 0b11#2 := by
    rw [format_high]
    exact format5_high _ (format_high3.symm.trans h)
  rw [decode_of_format_high (by rw [hhigh]; decide), hhigh, h]
  rfl

theorem decode_of_format7 (h : w.extractLsb' 7 4 = 0b1110#4) : decode l w w2 = decode7 l w w2 := by
  rw [decode_of_format_high (by rw [format_high, h]; decide), format_high, format_high3, h]
  rfl

theorem decode_of_format_unused (h : w.extractLsb' 7 4 = 0b1111#4) :
    decode l w w2 = .error .formatUnused := by
  rw [decode_of_format_high (by rw [format_high, h]; decide), format_high, format_high3, h]
  rfl

end Formats

/-- A format 3 word whose opcode is that of an operation or of RTS (R106 to R108). -/
theorem decode3_of_other {l : Launch} {w : Long} (h : w.extractLsb' 0 7 ∉ format3Opcodes) :
    decode3 l w = decode3Op l w := by
  simp [format3Opcodes] at h
  simp [decode3, h]

/-- A format 3 word whose opcode is not that of RTS. -/
theorem decode3Op_of_other {l : Launch} {w : Long}
    (h : l.rtsWord.map (·.extractLsb' 0 7) ≠ some (w.extractLsb' 0 7)) :
    decode3Op l w = decodeOp l (w.extractLsb' 0 7) false fun op _ =>
      .f3 (w.extractLsb' 11 16) (op.dstField (w.extractLsb' 27 5)) := by
  unfold decode3Op
  rw [if_neg]
  intro heq
  have hlow := congrArg (Option.map (·.extractLsb' 0 7)) heq
  rw [Option.map_map] at hlow
  refine h (Eq.trans ?_ (hlow.trans ?_))
  · exact congrArg (l.rtsWord.map ·) (funext fun r => (field_field r (by decide : 0 + 7 ≤ 28)).symm)
  · exact congrArg some (field_field w (by decide : 0 + 7 ≤ 28))

/-! ### The words of the encoder, read by the decoder -/

section Words

variable (l : Launch) (op7 : BitVec 7) (h : Bool) (w2 : Long)

theorem decode_word1 (fs : BitVec 15) (cc : Cond) :
    decode l (fs ++ BitVec.ofBool h ++ 0#1 ++ cc ++ 0b0001#4 ++ op7) w2
      = decodeOp l op7 h fun op imm => .f1 cc (op.opnd imm (fs.extractLsb' 10 5))
          (op.sndField (fs.extractLsb' 0 5)) (op.dstField (fs.extractLsb' 5 5)) := by
  rw [decode_of_format1 (by simp)]
  simp [decode1, zeros, -BitVec.getLsbD_eq_getElem]

theorem decode_word2 (fs : BitVec 15) (cc : Cond) (hop : op7 ≠ 0b0001100#7 ∧ op7 ≠ 0b0001101#7) :
    decode l (fs ++ 0#2 ++ cc ++ 0b0010#4 ++ op7) w2
      = decodeOp l op7 false fun op _ => .f2 cc w2 (op.sndField (fs.extractLsb' 0 5))
          (op.dstField (fs.extractLsb' 5 5)) := by
  rw [decode_of_format2 (by simp)]
  simp [decode2, zeros, hop]

theorem decode_word2d (n : BitVec 14) (last : Half) (hop : op7 = 0b0001100#7 ∨ op7 = 0b0001101#7) :
    decode l (0#5 ++ last ++ 0b0010#4 ++ op7) (0#18 ++ n)
      = .ok (if op7 = 0b0001100#7 then .doNAbs n last else .doNRel n last) := by
  rw [decode_of_format2 (by simp)]
  simp [decode2, zeros, hop]

theorem decode_word3 (d : BitVec 5) (imm : Half) (hop : op7 ∉ format3Opcodes)
    (hrts : l.rtsWord.map (·.extractLsb' 0 7) ≠ some op7) :
    decode l (d ++ imm ++ 0b0011#4 ++ op7) w2
      = decodeOp l op7 false fun op _ => .f3 imm (op.dstField d) := by
  rw [decode_of_format3 (by simp), decode3_of_other (by simpa using hop),
    decode3Op_of_other (by simpa using hrts)]
  simp

theorem decode_word4 (fs : BitVec 10) (x : XferX) (hop : op7 = 0b1100111#7 → h = true) :
    decode l (fs ++ memFields x ++ 0b01#2 ++ BitVec.ofBool x.de ++ BitVec.ofBool h ++ op7) w2
      = decodeOp l op7 h fun op imm => .f4 (op.opnd imm (fs.extractLsb' 5 5))
          (op.dstField (fs.extractLsb' 0 5)) x := by
  rw [decode_of_format4 (by simp)]
  cases h with
  | true => simp [decode4, isMoveMem, readXferX, memFields, -BitVec.getLsbD_eq_getElem]
  | false =>
    have hne : op7 ≠ 0b1100111#7 := fun heq => nomatch hop heq
    simp [decode4, isMoveMem, readXferX, memFields, hne, -BitVec.getLsbD_eq_getElem]

theorem decode_word5 (fs : BitVec 10) (x : XferRR) :
    decode l (fs ++ x.rs ++ BitVec.ofBool x.l ++ x.rd ++ 0b110#3 ++ BitVec.ofBool h ++ op7) w2
      = decodeOp l op7 h fun op imm => .f5 (op.opnd imm (fs.extractLsb' 5 5))
          (op.dstField (fs.extractLsb' 0 5)) x := by
  rw [decode_of_format5 (by simp)]
  simp [decode5, -BitVec.getLsbD_eq_getElem]

theorem decode_word6 (fs : BitVec 10) (x : XferRC) (hop : op7 = 0b1100111#7 → h = true) :
    decode l (fs ++ x.r ++ BitVec.ofBool x.sc ++ x.rc ++ 0b10#2 ++ BitVec.ofBool x.de
        ++ BitVec.ofBool h ++ op7) w2
      = decodeOp l op7 h fun op imm => .f6 (op.opnd imm (fs.extractLsb' 5 5))
          (op.dstField (fs.extractLsb' 0 5)) x := by
  rw [decode_of_format6 (by simp)]
  cases h with
  | true => simp [decode6, -BitVec.getLsbD_eq_getElem]
  | false =>
    have hne : op7 ≠ 0b1100111#7 := fun heq => nomatch hop heq
    simp [decode6, hne, -BitVec.getLsbD_eq_getElem]

theorem decode_word7 (fs : BitVec 10) (cc : Cond) (x : XferImm) :
    decode l (fs ++ x.rd ++ BitVec.ofBool x.lsc ++ BitVec.ofBool x.sr ++ cc ++ 0b1110#4 ++ op7) x.imm
      = decodeOp l op7 false fun op _ =>
          .f7 cc (if op.info.shape.uses.1 then fs.extractLsb' 5 5 else 0)
            (op.dstField (fs.extractLsb' 0 5)) x := by
  rw [decode_of_format7 (by simp)]
  simp [decode7, -BitVec.getLsbD_eq_getElem]
end Words

/-! ### What well-formedness asks of the fields -/

@[simp] theorem require_eq_none {ok : Bool} {e : DecodeError} : require ok e = none ↔ ok = true := by
  unfold require
  cases ok <;> simp

@[simp] theorem orElse_eq_none {α : Type} {a b : Option α} :
    (a <|> b) = none ↔ a = none ∧ b = none := by
  cases a <;> simp

/-- A shift-type operation has its code in the formats 1 to 7 and in the OP2 slot. -/
theorem code_of_isShift {op : Op} (h : op.isShift = true) (l : Launch) :
    ∃ b, op.code l = some (.shift b) ∧ op.code2 l = some (.shift b) := by
  unfold Op.isShift at h
  split at h
  · rename_i b hb
    have hcode := (code_of_assigned (assigned_of_code hb) l).trans hb
    refine ⟨b, hcode, ?_⟩
    unfold Op.code2
    split
    case h_6 => simp only [hcode]
    all_goals cases hb
  · cases h

/-- A code reads back what the encoder writes for it: the `#` bit beside the first operand tells the
immediate from the register (R118). -/
theorem read_hashBit {l : Launch} {op : Op} {c : OpCode} {s : Opnd}
    (hc : op.code l = some c ∨ op.code2 l = some c) (hs : fstError op s = none) :
    ∃ imm, c.read c.bits (hashBit c s) = some imm ∧ op.opnd imm (opndField s) = s := by
  by_cases huse : op.info.shape.uses.1 = true
  · cases s with
    | reg n =>
      exact ⟨false, by cases c <;> simp [OpCode.read, hashBit], by simp [Op.opnd, huse, opndField]⟩
    | imm5 k =>
      obtain ⟨b, h7, h2⟩ := code_of_isShift (op := op) (by simpa [fstError, huse] using hs) l
      obtain rfl : c = .shift b := by simpa [h7, h2, eq_comm] using hc
      exact ⟨true, by simp [OpCode.read, hashBit], by simp [Op.opnd, huse, opndField]⟩
  · obtain rfl : s = .reg 0 := by simpa [fstError, huse] using hs
    exact ⟨(c.read c.bits (hashBit c (.reg 0))).getD false,
      by cases c <;> simp [OpCode.read, hashBit], by simp [Op.opnd, huse]⟩

/-- The first operand from the register fields that the encoder writes (R131). -/
theorem opnd_operandFields (op : Op) (imm : Bool) (s1 s2 d : BitVec 5) (dup : Bool) :
    op.opnd imm ((operandFields op s1 s2 d dup).extractLsb' 10 5) = op.opnd imm s1 := by
  unfold Op.opnd operandFields
  cases op.info.shape <;> simp [Shape.uses]

/-- The second source from the register fields that the encoder writes (R131). -/
theorem sndField_operandFields {op : Op} {s2 : BitVec 5} (h : sndError op s2 = none)
    (s1 d : BitVec 5) (dup : Bool) :
    op.sndField ((operandFields op s1 s2 d dup).extractLsb' 0 5) = s2 := by
  unfold Op.sndField operandFields
  unfold sndError at h
  cases hs : op.info.shape <;> simp_all [Shape.uses]

/-- A destination field, or 0 where the operation has none. -/
theorem dstField_of_dstError {op : Op} {two : Bool} {d : BitVec 5} (h : dstError op two d = none) :
    op.dstField d = d := by
  unfold Op.dstField
  unfold dstError at h
  split <;> simp_all

/-- The destination from the register fields that the encoder writes (R131). -/
theorem dstField_operandFields {op : Op} {two : Bool} {d : BitVec 5} (h : dstError op two d = none)
    (s1 s2 : BitVec 5) (dup : Bool) :
    op.dstField ((operandFields op s1 s2 d dup).extractLsb' 5 5) = d := by
  rw [← dstField_of_dstError h]
  unfold Op.dstField operandFields
  cases op.info.shape <;> simp [Shape.uses]

/-- The form's instruction, once the lookup has found the operation. -/
theorem decodeOp_of_read {l : Launch} (hl : l.ok = true) {op : Op} {c : OpCode} {f : Form}
    {bits : BitVec 7} {hash imm : Bool} {form : Op → Bool → Form} (hwf : formError l op f = none)
    (hc : op.code l = some c) (hr : c.read bits hash = some imm) (hform : form op imm = f) :
    decodeOp l bits hash form = .ok (instrOf op f) := by
  simp only [decodeOp, lookup7_eq, searchCode_of_read (Launch.codesOk hl).apart7 hc hr, hform,
    checkedForm, hwf]

/-! ### Decoding undoes encoding -/

/-- The words stand for the instruction, whatever follows the last of them. -/
def StandsFor (l : Launch) (o : Option Code) (i : Instr) : Prop :=
  ∃ c, o = some c ∧ ∀ w2, decode l c.w (c.w2.getD w2) = .ok i

/-- The OP2 slot holds no OP1 code, so the upper two of its seven opcode bits are 11 (R125). -/
theorem bits_of_code2 {l : Launch} {op : Op} {c : OpCode} (h : op.code2 l = some c) :
    0b11#2 ++ c.bits.extractLsb' 0 5 = c.bits := by
  cases c with
  | op1 b => exact absurd h (code2_ne_op1 l op b)
  | op2 b hash => simp [OpCode.bits]
  | shift b => simp [OpCode.bits]

/-- The transfer fields of both words of format 8, read back (R115, R116). -/
theorem readFrame_frameFields (fs1 : BitVec 15) (m : Bool) (fr : Frame) (bits1 : BitVec 7)
    (fs2 : BitVec 15) (hash : Bool) (bits2 : BitVec 5) :
    readFrame (fs1 ++ BitVec.ofBool m ++ (frameFields fr).1 ++ 0b0000#4 ++ bits1)
      (fs2 ++ (frameFields fr).2 ++ BitVec.ofBool hash ++ bits2) = (true, fr) := by
  cases fr with
  | a at2 x => simp [readFrame, frameFields, -BitVec.getLsbD_eq_getElem]
  | b at2 x => simp [readFrame, frameFields, -BitVec.getLsbD_eq_getElem]
  | c cc rs rd =>
    have hcc : cc.extractLsb' 2 2 ++ cc.extractLsb' 0 2 = cc :=
      BitVec.extractLsb'_append_extractLsb' (w := 2) (len := 2)
    simp [readFrame, frameFields, hcc, -BitVec.getLsbD_eq_getElem]
  | d x => simp [readFrame, frameFields, -BitVec.getLsbD_eq_getElem]

/-- The first register field, as format 7 and the OP1 slot read it. -/
theorem field_operandFields {op : Op} {s1 : BitVec 5} (h : fstError op (.reg s1) = none)
    (s2 d : BitVec 5) (dup : Bool) :
    (if op.info.shape.uses.1 then (operandFields op s1 s2 d dup).extractLsb' 10 5 else 0#5) = s1 := by
  unfold fstError at h
  unfold operandFields
  cases hs : op.info.shape <;> simp_all [Shape.uses]

/-- Format 8, read back: the operations of both slots and the frame (R115, R116). -/
theorem encodePair_standsFor {l : Launch} (hl : l.ok = true) {i1 : Slot1} {i2 : Slot2} {fr : Frame}
    (h1 : slot1Error l (frameFmt fr) i1 = none) (h2 : slot2Error l (frameFmt fr) i2 = none)
    (hfr : frameError l fr = none) : StandsFor l (encodePair l i1 i2 fr) (pairInstr i1 i2 fr) := by
  have hslots : slotsError l i1 i2 fr = none := by simp [slotsError, h1, h2, hfr]
  simp only [slot1Error, slot2Error, orElse_eq_none, require_eq_none,
    Option.isSome_iff_exists] at h1 h2
  obtain ⟨⟨c1, hc1⟩, -, -, hs1, hs2, hd⟩ := h1
  obtain ⟨⟨c2, hc2⟩, -, hs3, hs4, hd2⟩ := h2
  obtain ⟨b1, rfl, hb1⟩ := code1_eq_some.1 hc1
  obtain ⟨imm, hr2, hopnd⟩ := read_hashBit (.inr hc2) hs3
  have hlook1 := lookup1_of_code (Launch.codesOk hl).apart7 (code_ne_nop hl hb1) hb1
  have hlook2 : lookup2 l (c2.bits.extractLsb' 0 5) (hashBit c2 i2.s3) = some (i2.op, imm) := by
    rw [lookup2_eq, bits_of_code2 hc2]
    exact searchCode_of_read (Launch.codesOk hl).apart2 hc2 hr2
  have hbits : (OpCode.op1 b1).bits = b1 := rfl
  refine ⟨_, by rw [encodePair, hc1, hc2], fun w2 => ?_⟩
  rw [decode_of_format8 (by simp)]
  simp [decode8, zeros, hbits, hlook1, hlook2, readFrame_frameFields, field_operandFields hs1,
    sndField_operandFields hs2, dstField_operandFields hd, opnd_operandFields, hopnd,
    sndField_operandFields hs4, dstField_operandFields hd2, hslots, -BitVec.getLsbD_eq_getElem]

theorem slot1Error_empty (l : Launch) (fr : Frame) : slot1Error l (frameFmt fr) .empty = none := by
  cases fr <;> rfl

theorem slot2Error_empty (l : Launch) (fr : Frame) : slot2Error l (frameFmt fr) .empty = none := by
  cases fr <;> rfl

/-- One operation in a slot of format 8, read back: the other slot holds NOP. -/
theorem pairInstr_op1 {op : Op} (hop : op ≠ .nop) (m : Bool) (s1 s2 d : RegNo) (fr : Frame) :
    pairInstr ⟨op, m, s1, s2, d⟩ .empty fr = instrOf op (.f8 .op1 m (.reg s1) s2 d fr) := by
  simp [pairInstr, Slot2.empty, hop]

theorem pairInstr_op2 {op : Op} (hop : op ≠ .nop) (s3 : Opnd) (s4 d2 : RegNo) (fr : Frame) :
    pairInstr .empty ⟨op, s3, s4, d2⟩ fr = instrOf op (.f8 .op2 false s3 s4 d2 fr) := by
  simp [pairInstr, Slot1.empty, hop]

/-- A pair of operations, or of two empty slots, read back. -/
theorem pairInstr_both {i1 : Slot1} {i2 : Slot2} (h : (i1.op == .nop) = (i2.op == .nop)) (fr : Frame) :
    pairInstr i1 i2 fr = Machine.frameInstr i1 i2 fr := by
  have hiff : i1.op = .nop ↔ i2.op = .nop := by rw [← beq_iff_eq, h, beq_iff_eq]
  unfold pairInstr
  rw [if_neg fun hops => hops.2 (hiff.2 hops.1), if_neg fun hops => hops.2 (hiff.1 hops.1)]
  cases fr <;> rfl

/-- A code in a format without `#` bit (`codeSuits`). -/
theorem codeSuits_spec {l : Launch} {op : Op} {c : OpCode} (h : codeSuits op = true)
    (hc : op.code l = some c) : op.info.code = some c ∧ c.read c.bits false = some false
      ∧ (op.info.formats.contains .f2 = true → c.bits ≠ 0b0001100#7 ∧ c.bits ≠ 0b0001101#7)
      ∧ (op.info.formats.contains .f3 = true → c.bits ∉ format3Opcodes) := by
  obtain ⟨c', hinfo, h⟩ := (Option.any_eq_true ..).1 h
  obtain rfl : c' = c := Option.some.inj <|
    hinfo.symm.trans <| (code_of_assigned (assigned_of_code hinfo) l).symm.trans hc
  simp only [Bool.and_eq_true, beq_iff_eq] at h
  obtain ⟨⟨hread, h2⟩, h3⟩ := h
  refine ⟨hinfo, hread, fun hf => ?_, fun hf => ?_⟩
  · simpa [List.contains_iff_mem.1 hf] using h2
  · simpa [List.contains_iff_mem.1 hf] using h3

/-- The opcode of RTS is no operation's in format 3 (`rtsApart`). -/
theorem rts_ne_code {l : Launch} (hl : l.ok = true) {op : Op} {c : OpCode}
    (hf : op.info.formats.contains .f3 = true) (hinfo : op.info.code = some c) :
    l.rtsWord.map (·.extractLsb' 0 7) ≠ some c.bits := by
  have hrts := (Launch.codesOk hl).rts
  intro heq
  obtain ⟨w, hw, hbits⟩ := Option.map_eq_some_iff.1 heq
  simp only [hw, Option.all_some, rtsApart, Bool.and_eq_true, List.all_eq_true] at hrts
  have hop := hrts.2 op op.mem_all
  simp [List.contains_iff_mem.1 hf, hinfo, hbits] at hop

/-- The instruction of an operation and a form. -/
theorem instrOf_of_partsOf {i : Instr} {op : Op} {f : Form} (h : partsOf i = some (op, f)) :
    instrOf op f = i := by
  cases i <;> cases h <;> rfl

theorem ne_nop_of_partsOf {i : Instr} {op : Op} {f : Form} (h : partsOf i = some (op, f)) :
    op ≠ .nop := by
  cases i <;> cases h <;> decide

/-- The words of an ALU instruction are those of its operation and form. -/
theorem encode_of_partsOf {l : Launch} {i : Instr} {op : Op} {f : Form} (h : partsOf i = some (op, f)) :
    encode l i = encodeOp l op f := by
  unfold encode
  rw [h]

/-- The words of an operation in the formats 1 to 7 come from its code. -/
theorem encodeOp_of_code {l : Launch} {op : Op} {c : OpCode} {f : Form} {words : Code}
    (hc : op.code l = some c) (hf : encodeForm op c f = some words) :
    encodeOp l op f = some words := by
  cases f with
  | f8 slot m s1 s2 d fr => cases hf
  | _ => simp only [encodeOp, hc, Option.bind_some, hf]

/-- Beside the opcode of MOVE an operation has `#` = 1. -/
theorem hash_of_move {l : Launch} (hl : l.ok = true) {op : Op} {c : OpCode} {bits : BitVec 7}
    {hash imm : Bool} (hc : op.code l = some c) (hr : c.read bits hash = some imm) :
    bits = 0b1100111#7 → hash = true := by
  rintro rfl
  cases hash with
  | true => rfl
  | false => rw [code_ne_move hl hc] at hr; cases hr

section TwoAddress

variable {op : Op} {s1 s2 d : BitVec 5} (dup : Bool)

/-- The upper two register fields alone, as the formats 4 to 7 hold them. -/
theorem opnd_twoFields (imm : Bool) :
    op.opnd imm (((operandFields op s1 s2 d dup).extractLsb' 5 10).extractLsb' 5 5)
      = op.opnd imm s1 := by
  rw [field_field _ (by decide), opnd_operandFields]

theorem dstField_twoFields {two : Bool} (h : dstError op two d = none) :
    op.dstField (((operandFields op s1 s2 d dup).extractLsb' 5 10).extractLsb' 0 5) = d := by
  rw [field_field _ (by decide), dstField_operandFields h]

theorem field_twoFields (h : fstError op (.reg s1) = none) :
    (if op.info.shape.uses.1 then ((operandFields op s1 s2 d dup).extractLsb' 5 10).extractLsb' 5 5
      else 0) = s1 := by
  rw [field_field _ (by decide)]
  exact field_operandFields h s2 d dup

end TwoAddress

/-- One ALU operation in any form, read back (R102 to R116). -/
theorem encodeOp_standsFor {l : Launch} (hl : l.ok = true) {op : Op} {f : Form}
    (hwf : formError l op f = none) (hop : op ≠ .nop) :
    StandsFor l (encodeOp l op f) (instrOf op f) := by
  have h := hwf
  cases f with
  | f1 cc s1 s2 d =>
    simp only [formError, orElse_eq_none, require_eq_none, Option.isSome_iff_exists] at h
    obtain ⟨⟨c, hc⟩, -, hs, hs2, hd⟩ := h
    obtain ⟨imm, hr, hopnd⟩ := read_hashBit (.inl hc) hs
    refine ⟨_, encodeOp_of_code hc rfl, fun w2 => ?_⟩
    refine (decode_word1 ..).trans (decodeOp_of_read hl hwf hc hr ?_)
    rw [opnd_operandFields, hopnd, sndField_operandFields hs2, dstField_operandFields hd]
  | f2 cc v s2 d =>
    simp only [formError, fmtError, orElse_eq_none, require_eq_none, Option.isSome_iff_exists] at h
    obtain ⟨⟨c, hc⟩, hf, -, hs2, hd⟩ := h
    obtain ⟨-, hr, h2, -⟩ := codeSuits_spec (codeSuits_of_format (.inl hf)) hc
    refine ⟨_, encodeOp_of_code hc rfl, fun w2 => ?_⟩
    refine (decode_word2 (hop := h2 hf) ..).trans (decodeOp_of_read hl hwf hc hr ?_)
    rw [sndField_operandFields hs2, dstField_operandFields hd]
    rfl
  | f3 v d =>
    simp only [formError, fmtError, orElse_eq_none, require_eq_none, Option.isSome_iff_exists] at h
    obtain ⟨⟨c, hc⟩, hf, hd⟩ := h
    obtain ⟨hinfo, hr, -, h3⟩ := codeSuits_spec (codeSuits_of_format (.inr (.inl hf))) hc
    refine ⟨_, encodeOp_of_code hc rfl, fun w2 => ?_⟩
    refine (decode_word3 (hop := h3 hf) (hrts := rts_ne_code hl hf hinfo) ..).trans
      (decodeOp_of_read hl hwf hc hr ?_)
    rw [dstField_of_dstError hd]
  | f4 s d x =>
    simp only [formError, orElse_eq_none, require_eq_none, Option.isSome_iff_exists] at h
    obtain ⟨⟨c, hc⟩, -, hs, hd, -⟩ := h
    obtain ⟨imm, hr, hopnd⟩ := read_hashBit (.inl hc) hs
    refine ⟨_, encodeOp_of_code hc rfl, fun w2 => ?_⟩
    refine (decode_word4 (hop := hash_of_move hl hc hr) ..).trans (decodeOp_of_read hl hwf hc hr ?_)
    rw [opnd_twoFields, hopnd, dstField_twoFields _ hd]
  | f5 s d x =>
    simp only [formError, orElse_eq_none, require_eq_none, Option.isSome_iff_exists] at h
    obtain ⟨⟨c, hc⟩, -, hs, hd, -⟩ := h
    obtain ⟨imm, hr, hopnd⟩ := read_hashBit (.inl hc) hs
    refine ⟨_, encodeOp_of_code hc rfl, fun w2 => ?_⟩
    refine (decode_word5 ..).trans (decodeOp_of_read hl hwf hc hr ?_)
    rw [opnd_twoFields, hopnd, dstField_twoFields _ hd]
  | f6 s d x =>
    simp only [formError, orElse_eq_none, require_eq_none, Option.isSome_iff_exists] at h
    obtain ⟨⟨c, hc⟩, -, hs, hd⟩ := h
    obtain ⟨imm, hr, hopnd⟩ := read_hashBit (.inl hc) hs
    refine ⟨_, encodeOp_of_code hc rfl, fun w2 => ?_⟩
    refine (decode_word6 (hop := hash_of_move hl hc hr) ..).trans (decodeOp_of_read hl hwf hc hr ?_)
    rw [opnd_twoFields, hopnd, dstField_twoFields _ hd]
  | f7 cc s d x =>
    simp only [formError, fmtError, orElse_eq_none, require_eq_none, Option.isSome_iff_exists] at h
    obtain ⟨⟨c, hc⟩, hf, hs, hd, -⟩ := h
    obtain ⟨-, hr, -, -⟩ := codeSuits_spec (codeSuits_of_format (.inr (.inr hf))) hc
    refine ⟨_, encodeOp_of_code hc rfl, fun w2 => ?_⟩
    refine (decode_word7 ..).trans (decodeOp_of_read hl hwf hc hr ?_)
    rw [field_twoFields _ hs, dstField_twoFields _ hd]
  | f8 slot m s1 s2 d fr =>
    cases slot with
    | op1 =>
      cases s1 with
      | imm5 k => cases hwf
      | reg n =>
        obtain ⟨h1, hfr⟩ := orElse_eq_none.1 hwf
        rw [← pairInstr_op1 hop]
        exact encodePair_standsFor hl h1 (slot2Error_empty l fr) hfr
    | op2 =>
      simp only [formError, orElse_eq_none, require_eq_none, Bool.not_eq_true'] at h
      obtain ⟨rfl, h2, hfr⟩ := h
      rw [← pairInstr_op2 hop]
      exact encodePair_standsFor hl (slot1Error_empty l fr) h2 hfr

/-- A branch or jump, read back (R107, R108). -/
theorem decodeTarget_word (cc : Cond) (t : Target) (op7 : BitVec 7) (f : Cond → Target → Instr) :
    decodeTarget (encodeTarget cc t op7) f = .ok (f cc t) := by
  cases t with
  | imm v => simp [decodeTarget, encodeTarget, -BitVec.getLsbD_eq_getElem]
  | areg n => simp [decodeTarget, encodeTarget, zeros, -BitVec.getLsbD_eq_getElem]

theorem encodeTarget_format (cc : Cond) (t : Target) (op7 : BitVec 7) :
    (encodeTarget cc t op7).extractLsb' 7 4 = 0b0011#4
      ∧ (encodeTarget cc t op7).extractLsb' 0 7 = op7 := by
  cases t <;> simp [encodeTarget]

/-- A branch or jump whose opcode the decoder reads as `f`. -/
theorem encodeTarget_standsFor (l : Launch) (cc : Cond) (t : Target) (op7 : BitVec 7)
    (f : Cond → Target → Instr)
    (h : ∀ w : Long, w.extractLsb' 0 7 = op7 → decode3 l w = decodeTarget w f) :
    StandsFor l (some ⟨encodeTarget cc t op7, none⟩) (f cc t) := by
  obtain ⟨hformat, hop⟩ := encodeTarget_format cc t op7
  refine ⟨_, rfl, fun w2 => ?_⟩
  rw [decode_of_format3 hformat, h _ hop, decodeTarget_word]

theorem encode3_format (d : BitVec 5) (imm : Half) (op7 : BitVec 7) :
    (encode3 d imm op7).w.extractLsb' 7 4 = 0b0011#4 := by
  simp [encode3]

/-- A format 3 word, read back. -/
theorem encode3_standsFor {l : Launch} {d : BitVec 5} {imm : Half} {op7 : BitVec 7} {i : Instr}
    (h : decode3 l (encode3 d imm op7).w = .ok i) : StandsFor l (some (encode3 d imm op7)) i :=
  ⟨_, rfl, fun w2 => by
    rw [← h]
    exact decode_of_format3 (encode3_format d imm op7)⟩

/-- MOVE, read back (R418). -/
theorem encodeMove_standsFor {l : Launch} {f : MoveForm} (hwf : moveError l f = none) :
    StandsFor l (some (encodeMove l f)) (.move f) := by
  refine ⟨_, rfl, fun w2 => ?_⟩
  have hchecked : checked l (.move f) = .ok (.move f) := by
    have hinstr : instrError l (.move f) = none := hwf
    simp only [checked, hinstr]
  cases f with
  | rr cc x =>
    rw [decode_of_format6 (by simp [encodeMove])]
    simp [decode6, encodeMove, zeros, hchecked, -BitVec.getLsbD_eq_getElem]
  | rc cc x =>
    rw [decode_of_format6 (by simp [encodeMove])]
    simp [decode6, encodeMove, zeros, hchecked, -BitVec.getLsbD_eq_getElem]
  | mem cc x =>
    have hmode : x.mode ≠ l.modeImm := by simpa [moveError, memError] using hwf
    rw [decode_of_format4 (by simp [encodeMove])]
    simp [decode4, decodeMoveMem, isMoveMem, readXferX, memFields, encodeMove, zeros, hmode, hchecked,
      -BitVec.getLsbD_eq_getElem]
  | memImm cc r a u de imm =>
    rw [decode_of_format4 (by simp [encodeMove])]
    simp [decode4, decodeMoveMem, isMoveMem, readXferX, memFields, encodeMove, zeros,
      -BitVec.getLsbD_eq_getElem]

/-- The word of RTS is one of format 3, and no other program flow (`rtsApart`). -/
theorem rtsWord_format {l : Launch} (hl : l.ok = true) {r : Long} (hr : l.rtsWord = some r) :
    r.extractLsb' 7 4 = 0b0011#4 ∧ r.extractLsb' 0 7 ∉ format3Opcodes := by
  have hrts := (Launch.codesOk hl).rts
  simp only [hr, Option.all_some, rtsApart, Bool.and_eq_true, beq_iff_eq, Bool.not_eq_true',
    List.contains_eq_mem, decide_eq_false_iff_not] at hrts
  exact hrts.1

/-- RTS under any condition has the format and the opcode of the launch's word. -/
theorem rts_fields (cc : Cond) (r : Long) :
    (cc ++ r.extractLsb' 0 28 : Long).extractLsb' 7 4 = r.extractLsb' 7 4
      ∧ (cc ++ r.extractLsb' 0 28 : Long).extractLsb' 0 7 = r.extractLsb' 0 7 := by
  simp [field_field]

/-- RTS, read back: its word is the launch's under any condition (R108). -/
theorem encode_rts_standsFor {l : Launch} (hl : l.ok = true) {cc : Cond} {r : Long}
    (hr : l.rtsWord = some r) : StandsFor l (encode l (.rts cc)) (.rts cc) := by
  obtain ⟨hformat, hop⟩ := rtsWord_format hl hr
  obtain ⟨hf, ho⟩ := rts_fields cc r
  refine ⟨⟨cc ++ r.extractLsb' 0 28, none⟩, congrArg (Option.map _) hr, fun w2 => ?_⟩
  rw [decode_of_format3 (hf.trans hformat), decode3_of_other (ho ▸ hop)]
  simp [decode3Op, hr]

/-- A pair of operations in a frame, read back. -/
theorem frameInstr_standsFor {l : Launch} (hl : l.ok = true) {i1 : Slot1} {i2 : Slot2} {fr : Frame}
    (hwf : pairError l i1 i2 fr = none) :
    StandsFor l (encodePair l i1 i2 fr) (frameInstr i1 i2 fr) := by
  simp only [pairError, orElse_eq_none, require_eq_none, beq_iff_eq] at hwf
  obtain ⟨h1, h2, hfr, hboth⟩ := hwf
  rw [← pairInstr_both hboth]
  exact encodePair_standsFor hl h1 h2 hfr

/-- Settles O33: each form of instruction is read back from its words. -/
theorem decodeUndoesEncode : Obligations.DecodeUndoesEncode := by
  intro l i hl hwf
  change StandsFor l (encode l i) i
  cases hp : partsOf i with
  | some p =>
    obtain ⟨op, f⟩ := p
    have hform : formError l op f = none := by simpa only [WellFormed, instrError, hp] using hwf
    rw [encode_of_partsOf hp, ← instrOf_of_partsOf hp]
    exact encodeOp_standsFor hl hform (ne_nop_of_partsOf hp)
  | none =>
    cases i with
    | nop => exact encode3_standsFor (by simp [decode3, encode3, zeros])
    | b cc t => exact encodeTarget_standsFor l cc t _ .b fun w h => by simp [decode3, h]
    | bd cc t => exact encodeTarget_standsFor l cc t _ .bd fun w h => by simp [decode3, h]
    | bs cc t => exact encodeTarget_standsFor l cc t _ .bs fun w h => by simp [decode3, h]
    | j cc t => exact encodeTarget_standsFor l cc t _ .j fun w h => by simp [decode3, h]
    | jd cc t => exact encodeTarget_standsFor l cc t _ .jd fun w h => by simp [decode3, h]
    | js cc t => exact encodeTarget_standsFor l cc t _ .js fun w h => by simp [decode3, h]
    | rts cc =>
      have hsome : l.rtsWord.isSome = true := by simpa using (show require _ _ = none from hwf)
      obtain ⟨r, hr⟩ := Option.isSome_iff_exists.1 hsome
      exact encode_rts_standsFor hl hr
    | stop => exact ⟨_, rfl, fun w2 => decode_of_format3 (by decide)⟩
    | doNAbs n last => exact ⟨_, rfl, fun w2 => decode_word2d l _ n last (.inl rfl)⟩
    | doNRel n last => exact ⟨_, rfl, fun w2 => decode_word2d l _ n last (.inr rfl)⟩
    | doDAbs d last => exact encode3_standsFor (by simp [decode3, encode3])
    | doDRel d last => exact encode3_standsFor (by simp [decode3, encode3])
    | doforAbs last => exact encode3_standsFor (by simp [decode3, encode3, zeros])
    | doforRel last => exact encode3_standsFor (by simp [decode3, encode3, zeros])
    | enddo => exact encode3_standsFor (by simp [decode3, encode3, zeros])
    | move f => exact encodeMove_standsFor hwf
    | move16Agu d imm => exact encode3_standsFor (by simp [decode3, encode3])
    | move16Pcu d imm => exact encode3_standsFor (by simp [decode3, encode3])
    | frame8a i1 i2 at2 x => exact frameInstr_standsFor hl hwf
    | frame8b i1 i2 at2 x => exact frameInstr_standsFor hl hwf
    | frame8c i1 i2 cc rs rd => exact frameInstr_standsFor hl hwf
    | frame8d i1 i2 x => exact frameInstr_standsFor hl hwf
    | _ => cases hp

/-! ### The length of an instruction (R132) -/

/-- The formats of a first word (R101). -/
theorem format_cases (w : Long) : w.extractLsb' 7 4 = 0b0000#4 ∨ w.extractLsb' 7 4 = 0b0001#4
    ∨ w.extractLsb' 7 4 = 0b0010#4 ∨ w.extractLsb' 7 4 = 0b0011#4 ∨ w.extractLsb' 9 2 = 0b01#2
    ∨ w.extractLsb' 9 2 = 0b10#2 ∨ w.extractLsb' 8 3 = 0b110#3 ∨ w.extractLsb' 7 4 = 0b1110#4
    ∨ w.extractLsb' 7 4 = 0b1111#4 := by
  rw [format_high, format_high3]
  generalize w.extractLsb' 7 4 = f
  revert f
  decide

theorem isMoveMem_iff (w : Long) : isMoveMem w = true ↔
    w.extractLsb' 9 2 = 0b01#2 ∧ w.getLsbD 7 = false ∧ w.extractLsb' 0 7 = 0b1100111#7 := by
  simp [isMoveMem, and_assoc]

theorem isTwoWords_iff (l : Launch) (w : Long) : isTwoWords l w = true ↔
    w.extractLsb' 7 4 ∈ [0b0010#4, 0b1110#4, 0b0000#4]
      ∨ (isMoveMem w = true ∧ w.extractLsb' 12 3 = l.modeImm) := by
  simp [isTwoWords, or_assoc]

/-- In the formats 4 to 6 only MOVE in the immediate mode has a second word. -/
theorem isTwoWords_of_high {l : Launch} {w : Long}
    (h : w.extractLsb' 9 2 = 0b01#2 ∨ w.extractLsb' 9 2 = 0b10#2 ∨ w.extractLsb' 8 3 = 0b110#3) :
    isTwoWords l w = (isMoveMem w && w.extractLsb' 12 3 == l.modeImm) := by
  have hformat : ∀ f : BitVec 4, f.extractLsb' 2 2 = 0b01#2 ∨ f.extractLsb' 2 2 = 0b10#2
      ∨ f.extractLsb' 1 3 = 0b110#3 → f ∉ [0b0010#4, 0b1110#4, 0b0000#4] := by decide
  rw [format_high, format_high3] at h
  rw [Bool.eq_iff_iff, isTwoWords_iff, Bool.and_eq_true, beq_iff_eq]
  simp only [hformat _ h, false_or]

/-- In the formats 1, 3, 5 and 6 there is no second word. -/
theorem isTwoWords_eq_false {l : Launch} {w : Long}
    (h : w.extractLsb' 7 4 = 0b0001#4 ∨ w.extractLsb' 7 4 = 0b0011#4 ∨ w.extractLsb' 9 2 = 0b10#2
      ∨ w.extractLsb' 8 3 = 0b110#3) : isTwoWords l w = false := by
  have hformat : ∀ f : BitVec 4, f = 0b0001#4 ∨ f = 0b0011#4 ∨ f.extractLsb' 2 2 = 0b10#2
      ∨ f.extractLsb' 1 3 = 0b110#3 →
      f ∉ [0b0010#4, 0b1110#4, 0b0000#4] ∧ f.extractLsb' 2 2 ≠ 0b01#2 := by decide
  rw [format_high, format_high3] at h
  obtain ⟨hshort, hhigh⟩ := hformat _ h
  rw [← format_high] at hhigh
  rw [Bool.eq_false_iff, ne_eq, isTwoWords_iff, isMoveMem_iff]
  simp only [hshort, hhigh, false_and, or_self, not_false_eq_true]

/-- A one-word instruction is decoded from its first word alone. -/
theorem decode_of_oneWord {l : Launch} {w : Long} (h : isTwoWords l w = false) (v1 v2 : Long) :
    decode l w v1 = decode l w v2 := by
  have hlong (hf : w.extractLsb' 7 4 ∈ [0b0010#4, 0b1110#4, 0b0000#4]) : False := by
    rw [(isTwoWords_iff l w).2 (.inl hf)] at h
    cases h
  obtain hf | hf | hf | hf | hf | hf | hf | hf | hf := format_cases w
  · exact (hlong (by simp [hf])).elim
  · rw [decode_of_format1 hf, decode_of_format1 hf]
  · exact (hlong (by simp [hf])).elim
  · rw [decode_of_format3 hf, decode_of_format3 hf]
  · rw [decode_of_format4 hf, decode_of_format4 hf]
    unfold decode4
    cases hmove : isMoveMem w with
    | false => rfl
    | true =>
      have hmode : (readXferX w).mode ≠ l.modeImm := fun hmode => by
        rw [(isTwoWords_iff l w).2 (.inr ⟨hmove, hmode⟩)] at h
        cases h
      simp only [decodeMoveMem, if_neg hmode]
  · rw [decode_of_format6 hf, decode_of_format6 hf]
  · rw [decode_of_format5 hf, decode_of_format5 hf]
  · exact (hlong (by simp [hf])).elim
  · rw [decode_of_format_unused hf, decode_of_format_unused hf]

/-- The words of an operation in the formats 1 to 7 have the length that their first word tells; in
format 4 it is not taken for MOVE. -/
theorem isTwoWords_encodeForm {l : Launch} {op : Op} {c : OpCode} {f : Form} {words : Code}
    (h : encodeForm op c f = some words)
    (hmove : ∀ s d x, f = .f4 s d x → c.bits = 0b1100111#7 → hashBit c s = true) :
    isTwoWords l words.w = words.w2.isSome := by
  cases f with
  | f1 cc s1 s2 d => cases h; exact isTwoWords_eq_false (.inl (by simp))
  | f2 cc v s2 d => cases h; exact (isTwoWords_iff ..).2 (.inl (by simp))
  | f3 v d => cases h; exact isTwoWords_eq_false (.inr (.inl (by simp)))
  | f4 s d x =>
    cases h
    rw [isTwoWords_of_high (.inl (by simp)), Option.isSome_none, Bool.and_eq_false_iff]
    refine .inl (Bool.eq_false_iff.2 fun hm => ?_)
    obtain ⟨-, hhash, hbits⟩ := (isMoveMem_iff _).1 hm
    have hbits' : c.bits = 0b1100111#7 := by simpa using hbits
    have hhash' : hashBit c s = false := by simpa [-BitVec.getLsbD_eq_getElem] using hhash
    exact Bool.false_ne_true (hhash'.symm.trans (hmove s d x rfl hbits'))
  | f5 s d x => cases h; exact isTwoWords_eq_false (.inr (.inr (.inr (by simp))))
  | f6 s d x => cases h; exact isTwoWords_eq_false (.inr (.inr (.inl (by simp))))
  | f7 cc s d x => cases h; exact (isTwoWords_iff ..).2 (.inl (by simp))
  | f8 slot m s1 s2 d fr => cases h

/-- Format 8 has two words. -/
theorem isTwoWords_encodePair {l : Launch} {i1 : Slot1} {i2 : Slot2} {fr : Frame} {words : Code}
    (h : encodePair l i1 i2 fr = some words) : isTwoWords l words.w = words.w2.isSome := by
  rw [Laws.WordCount.pair_w2 l i1 i2 fr words h]
  unfold encodePair at h
  split at h
  · cases h
    exact (isTwoWords_iff ..).2 (.inl (by simp))
  · cases h

/-- The words of an operation in any form have the length that their first word tells. -/
theorem isTwoWords_encodeOp {l : Launch} (hl : l.ok = true) {op : Op} {f : Form} {words : Code}
    (hwf : formError l op f = none) (h : encodeOp l op f = some words) :
    isTwoWords l words.w = words.w2.isSome := by
  cases f with
  | f8 slot m s1 s2 d fr => cases slot <;> exact isTwoWords_encodePair h
  | f4 s d x =>
    simp only [formError, orElse_eq_none, require_eq_none, Option.isSome_iff_exists] at hwf
    obtain ⟨⟨c, hc⟩, -, hs, -⟩ := hwf
    obtain ⟨imm, hr, -⟩ := read_hashBit (.inl hc) hs
    obtain ⟨c', hc', hw⟩ := Option.bind_eq_some_iff.1 h
    obtain rfl : c = c' := Option.some.inj (hc.symm.trans hc')
    exact isTwoWords_encodeForm hw fun s' d' x' heq hbits => by
      cases heq
      exact hash_of_move hl hc hr hbits
  | _ =>
    obtain ⟨c, -, hw⟩ := Option.bind_eq_some_iff.1 h
    exact isTwoWords_encodeForm hw nofun

/-- MOVE has a second word exactly in the immediate mode (R112, R114). -/
theorem isTwoWords_encodeMove {l : Launch} {f : MoveForm} (hwf : moveError l f = none) :
    isTwoWords l (encodeMove l f).w = (encodeMove l f).w2.isSome := by
  cases f with
  | rr cc x => exact isTwoWords_eq_false (.inr (.inr (.inl (by simp [encodeMove]))))
  | rc cc x => exact isTwoWords_eq_false (.inr (.inr (.inl (by simp [encodeMove]))))
  | mem cc x =>
    have hmode : x.mode ≠ l.modeImm := by simpa [moveError, memError] using hwf
    rw [isTwoWords_of_high (.inl (by simp [encodeMove]))]
    simp [encodeMove, memFields, hmode]
  | memImm cc r a u de imm =>
    rw [isTwoWords_of_high (.inl (by simp [encodeMove]))]
    simp [encodeMove, memFields, isMoveMem, -BitVec.getLsbD_eq_getElem]

/-- A word of format 3 is alone. -/
theorem isTwoWords_of_format3 {l : Launch} {w : Long} (h : w.extractLsb' 7 4 = 0b0011#4) :
    isTwoWords l w = false :=
  isTwoWords_eq_false (.inr (.inl h))

/-- The words of every instruction have the length that their first word tells. -/
theorem isTwoWords_encode {l : Launch} (hl : l.ok = true) {i : Instr} {words : Code}
    (hwf : WellFormed l i) (h : encode l i = some words) :
    isTwoWords l words.w = words.w2.isSome := by
  cases hp : partsOf i with
  | some p =>
    obtain ⟨op, f⟩ := p
    have hform : formError l op f = none := by simpa only [WellFormed, instrError, hp] using hwf
    exact isTwoWords_encodeOp hl hform ((encode_of_partsOf hp).symm.trans h)
  | none =>
    cases i with
    | nop => cases h; exact isTwoWords_of_format3 (encode3_format ..)
    | b cc t => cases h; exact isTwoWords_of_format3 (encodeTarget_format ..).1
    | bd cc t => cases h; exact isTwoWords_of_format3 (encodeTarget_format ..).1
    | bs cc t => cases h; exact isTwoWords_of_format3 (encodeTarget_format ..).1
    | j cc t => cases h; exact isTwoWords_of_format3 (encodeTarget_format ..).1
    | jd cc t => cases h; exact isTwoWords_of_format3 (encodeTarget_format ..).1
    | js cc t => cases h; exact isTwoWords_of_format3 (encodeTarget_format ..).1
    | rts cc =>
      obtain ⟨r, hr, hw⟩ := Option.map_eq_some_iff.1 h
      cases hw
      exact isTwoWords_of_format3 ((rts_fields cc r).1.trans (rtsWord_format hl hr).1)
    | stop => cases h; exact isTwoWords_of_format3 (by decide)
    | doNAbs n last => cases h; exact (isTwoWords_iff ..).2 (.inl (by simp [encode2d]))
    | doNRel n last => cases h; exact (isTwoWords_iff ..).2 (.inl (by simp [encode2d]))
    | doDAbs d last => cases h; exact isTwoWords_of_format3 (encode3_format ..)
    | doDRel d last => cases h; exact isTwoWords_of_format3 (encode3_format ..)
    | doforAbs last => cases h; exact isTwoWords_of_format3 (encode3_format ..)
    | doforRel last => cases h; exact isTwoWords_of_format3 (encode3_format ..)
    | enddo => cases h; exact isTwoWords_of_format3 (encode3_format ..)
    | move f => cases h; exact isTwoWords_encodeMove hwf
    | move16Agu d imm => cases h; exact isTwoWords_of_format3 (encode3_format ..)
    | move16Pcu d imm => cases h; exact isTwoWords_of_format3 (encode3_format ..)
    | frame8a i1 i2 at2 x => exact isTwoWords_encodePair h
    | frame8b i1 i2 at2 x => exact isTwoWords_encodePair h
    | frame8c i1 i2 cc rs rd => exact isTwoWords_encodePair h
    | frame8d i1 i2 x => exact isTwoWords_encodePair h
    | _ => cases hp

/-- The end of an ALU instruction that is in no loop and no delay slot. -/
theorem after_pc {f : Form} {s : State} {e x : Effect} (hdelay : s.delay = none)
    (hloop : (commit s ((if opHolds s f then e else {}).and x)).loopActive = false) :
    (after s f e x).pc = s.pc + f.len := by
  unfold after
  generalize (if opHolds s f then e else {}).and x = writes at hloop ⊢
  have hnone : (commit s writes).delay = none := (commit_delay s writes).trans hdelay
  rw [advance_plain f.len _ hnone fun h => Bool.false_ne_true (hloop.symm.trans h.1)]
  exact congrArg (· + f.len) (commit_pc s writes)

/-- Settles O34: the first word tells the length, in the encoder, the decoder and the program counter. -/
theorem lengthFromFirstWord : Obligations.LengthFromFirstWord := by
  intro l
  refine ⟨fun w => ?_, fun i words hl hwf h => isTwoWords_encode hl hwf h,
    fun w v1 v2 h => decode_of_oneWord h v1 v2, fun f s e x hdelay hloop => after_pc hdelay hloop⟩
  rw [isTwoWords_iff, isMoveMem_iff]
  simp only [and_assoc]

end Sys2Proof

/-! Two operations in one instruction (spec/30_encoding.md R115, R116, R124) and the transfers between
data registers (spec/47_move_to_notl.md R413, R415, R418): every part reads the state before the
instruction, and a false condition leaves nothing of what stands under it. -/

namespace Sys2Proof.Machine

/-! ### Parts under a condition -/

/-- An instruction whose parts all stand under one condition: without it nothing but the end of the
step, not even a stop (R120). -/
theorem finish_guarded (s : State) (len : Half) (b : Bool) (p : Part) :
    finish s len (guarded b p)
      = if b then finish s len p else .next (advance len .fallthrough s) := by
  cases b with
  | true => rw [guarded_true]; rfl
  | false =>
    have hidle : guarded false p = .next {} := by cases p <;> rfl
    rw [hidle, finish, commit_empty]
    rfl

/-! ### Pairs of operations -/

/-- A pair of operations that runs: OP1, and OP2 with the transfer under the condition of 8c, land
together (R116, R133). -/
theorem runPair_eq {s : State} {i1 : Slot1} {i2 : Slot2} {fr : Frame} {e1 e2 ex : Effect}
    (h1 : part1 s i1 = .next e1) (h2 : part2 s i2 = .next e2)
    (hstop : frameStop s i1.op i2.op fr = none) (hx : frameTransfer s fr = .next ex) :
    runPair s i1 i2 fr = .next (advance 2 .fallthrough
      (commit s (e1.and (if frameHolds s fr then e2.and ex else {})))) := by
  simp only [runPair, runFrame, hstop, frameParts_eq, h1, h2, hx]
  rfl

/-- Settles O58: each frame is the same pair of operations beside its transfers. -/
theorem pairsOfOperations : Obligations.PairsOfOperations := by
  intro i1 i2 s e1 e2 ex h1 h2
  refine ⟨fun at2 x hstop hx => runPair_eq h1 h2 hstop hx,
    fun at2 x hstop hx => runPair_eq h1 h2 hstop hx, fun cc rs rd hstop => ?_,
    fun x hstop hx => runPair_eq h1 h2 hstop hx⟩
  exact runPair_eq h1 h2 hstop (xferRR_eq s ⟨longReg rs, longReg rd, true⟩)

/-- The operation and the form that make an instruction are found in it. -/
theorem partsOf_instrOf {op : Op} (hop : op ≠ .nop) (f : Form) :
    partsOf (instrOf op f) = some (op, f) := by
  cases op with
  | nop => exact absurd rfl hop
  | _ => rfl

/-- An operation in a slot of format 8 beside a transfer that completes: it writes what its part
writes. -/
theorem exec_f8 {s : State} {op : Op} {slot : SlotPos} {m : Bool} {s1 : Opnd} {s2 d : RegNo}
    {fr : Frame} {e ex : Effect} (hop : op ≠ .nop)
    (halu : aluOf op s (.threeAddr (.ofOpnd s1) s2 d m) = .next e)
    (hx : frameTransfer s fr = .next ex) (hstop : formStop s op (.f8 slot m s1 s2 d fr) = none) :
    exec (instrOf op (.f8 slot m s1 s2 d fr)) s
      = .next (after s (.f8 slot m s1 s2 d fr) e (if frameHolds s fr then ex else {})) := by
  rw [exec_of_parts _ op _ s (partsOf_instrOf hop _)]
  refine runForm_next op _ _ s e _ halu ?_ hstop
  rw [beside, transferHolds, hx]
  rfl

/-- Settles O59: alone in its slot an operation is the same part of the instruction. -/
theorem slotWritesAsAlone : Obligations.SlotWritesAsAlone := by
  intro s fr e ex hx
  exact ⟨fun i hop halu => exec_f8 (slot := .op1) (m := i.m) (s1 := .reg i.s1) hop halu hx,
    fun i hop halu => exec_f8 (slot := .op2) (m := false) (s1 := i.s3) hop halu hx⟩

/-! ### Transfers between data registers -/

/-- `RL[n] <- RL[m]` register by register (spec/10_state.md R21). -/
theorem write32_r32 (s : State) (n m : RegNo) :
    write32 n (s.r32 m) = [(n, s.r16 m), (n + 1, s.r16 (m + 1))] := by
  simp [write32, State.r32]

/-- An immediate to a data register of 16 bits takes its low half (R415). -/
theorem xferImm_16 (s : State) (rd : RegNo) (imm : Long) :
    xferImm s ⟨rd, false, false, imm⟩ = .next { regs := [(rd, imm.extractLsb' 0 16)] } := by
  rw [← BitVec.setWidth_eq_extractLsb' (by decide)]
  rfl

/-- MOVE between data registers, under its condition. -/
theorem exec_move_rr (s : State) (cc : Cond) (x : XferRR) :
    exec (.move (.rr cc x)) s = if s.holds cc then finish s 1 (xferRR s x)
      else .next (advance 1 .fallthrough s) :=
  finish_guarded ..

/-- Settles O46: each home of a transfer between data registers is the same transfer, and MOVE is one
transfer under its condition. -/
theorem registerMoves : Obligations.RegisterMoves := by
  intro cc s taken done idle1 pair
  have hlong (rs rd : RegNo) : xferRR s ⟨rs, rd, true⟩ = .next { regs := pair rs rd } := by
    rw [xferRR_eq, if_pos rfl, write32_r32]
  have hshort (rs rd : RegNo) : xferRR s ⟨rs, rd, false⟩ = .next { regs := [(rd, s.r16 rs)] } :=
    xferRR_eq s ⟨rs, rd, false⟩
  refine ⟨fun rs rd => ⟨?_, ?_⟩, fun x => ?_, fun x => ?_, fun r a u de imm => ?_,
    fun s1 s2 d slot m => ⟨fun rs rd => ⟨?_, ?_, ?_, ?_⟩, fun rs rd => ?_, fun r rd imm => ⟨?_, ?_⟩⟩⟩
  · rw [exec_move_rr, hshort]
    rfl
  · rw [exec_move_rr, hlong]
    rfl
  · rw [exec_move_rc]
    exact finish_guarded ..
  · rw [exec_move_mem]
    exact finish_guarded ..
  · rw [exec_move_memImm]
    exact finish_guarded ..
  · exact (guarded_true _).trans (hshort rs rd)
  · exact (guarded_true _).trans (hlong rs rd)
  · rw [beside_f8_of_holds rfl, frameTransfer, hshort]
    rfl
  · rw [beside_f8_of_holds rfl, frameTransfer, hlong]
    rfl
  · exact congrArg (guarded taken) (hlong (rs ++ 0#1) (rd ++ 0#1))
  · exact congrArg (guarded taken) (xferImm_16 s rd imm)
  · rfl

end Sys2Proof.Machine

namespace Sys2Proof

/-- Settles O32: eight words of the tables through the decoder. -/
theorem printedWordsDecode : Obligations.PrintedWordsDecode := by
  unfold Obligations.PrintedWordsDecode
  decide

end Sys2Proof

/-! What the decoder accepts and what it refuses (spec/30_encoding.md R128): every instruction it
answers is well-formed, and the words that belong to no instruction are errors. -/

namespace Sys2Proof

open Machine

/-! ### Every accepted word is a well-formed instruction -/

/-- The instruction answered, if one is, is well-formed. -/
structure Sound (l : Launch) (r : Except DecodeError Instr) : Prop where
  wf : ∀ i, r = .ok i → WellFormed l i

section Sound

variable {l : Launch}

theorem sound_error (e : DecodeError) : Sound l (.error e) :=
  ⟨fun _ hi => by cases hi⟩

theorem sound_ok {i : Instr} (h : WellFormed l i) : Sound l (.ok i) :=
  ⟨fun _ hi => Except.ok.inj hi ▸ h⟩

theorem sound_zeros (ok : Bool) {r : Except DecodeError Instr} (h : Sound l r) :
    Sound l (zeros ok r) := by
  cases ok with
  | true => exact h
  | false => exact sound_error _

theorem Sound.ite {c : Prop} [Decidable c] {a b : Except DecodeError Instr} (ha : Sound l a)
    (hb : Sound l b) : Sound l (if c then a else b) := by
  split
  · exact ha
  · exact hb

theorem sound_checked (i : Instr) : Sound l (checked l i) := by
  unfold checked
  split
  · rename_i hi; exact sound_ok hi
  · exact sound_error _

/-- An operation in a form that passes its checks is well-formed; NOP is in any case. -/
theorem wellFormed_instrOf {op : Op} {f : Form} (h : formError l op f = none) :
    WellFormed l (instrOf op f) := by
  by_cases hop : op = .nop
  · subst hop; rfl
  · simp only [WellFormed, instrError, partsOf_instrOf hop, h]

theorem sound_decodeOp (bits : BitVec 7) (hash : Bool) (form : Op → Bool → Form) :
    Sound l (decodeOp l bits hash form) := by
  unfold decodeOp checkedForm
  split
  · exact sound_error _
  · split
    · rename_i hf; exact sound_ok (wellFormed_instrOf hf)
    · exact sound_error _

theorem sound_decodeTarget (w : Long) {f : Cond → Target → Instr} (hf : ∀ cc t, WellFormed l (f cc t)) :
    Sound l (decodeTarget w f) :=
  .ite (sound_ok (hf _ _)) (sound_zeros _ (sound_ok (hf _ _)))

theorem sound_decode2 (w w2 : Long) : Sound l (decode2 l w w2) := by
  refine .ite (sound_zeros _ (sound_ok ?_)) (sound_zeros _ (sound_decodeOp ..))
  split <;> rfl

/-- RTS is answered only in a launch that gives its word. -/
theorem sound_decode3Op (w : Long) : Sound l (decode3Op l w) := by
  unfold decode3Op
  split
  · rename_i hr
    have hsome : l.rtsWord.isSome = true := by
      cases hw : l.rtsWord with
      | none => simp [hw] at hr
      | some r => rfl
    exact sound_ok (require_eq_none.2 hsome)
  · exact sound_decodeOp ..

theorem sound_decode3 (w : Long) : Sound l (decode3 l w) :=
  .ite (sound_zeros _ (sound_ok rfl)) <| .ite (sound_zeros _ (sound_ok rfl)) <|
  .ite (sound_zeros _ (sound_ok rfl)) <| .ite (sound_ok rfl) <| .ite (sound_ok rfl) <| .ite (sound_zeros _ (sound_ok rfl)) <|
  .ite (sound_decodeTarget w fun _ _ => rfl) <| .ite (sound_decodeTarget w fun _ _ => rfl) <|
  .ite (sound_decodeTarget w fun _ _ => rfl) <| .ite (sound_decodeTarget w fun _ _ => rfl) <|
  .ite (sound_decodeTarget w fun _ _ => rfl) <| .ite (sound_decodeTarget w fun _ _ => rfl) <|
  .ite (sound_zeros _ (sound_ok rfl)) <| .ite (sound_ok rfl) <| .ite (sound_ok rfl) (sound_decode3Op w)

theorem sound_decode4 (w w2 : Long) : Sound l (decode4 l w w2) :=
  .ite (sound_zeros _ (.ite (sound_zeros _ (sound_ok rfl)) (sound_checked _))) (sound_decodeOp ..)

theorem sound_decode6 (w : Long) : Sound l (decode6 l w) :=
  .ite (sound_zeros _ (.ite (sound_checked _) (sound_checked _))) (sound_decodeOp ..)

/-- A pair of slots that passes the checks of a frame is well-formed as the instruction it makes. -/
theorem wellFormed_pairInstr {i1 : Slot1} {i2 : Slot2} {fr : Frame} (h : slotsError l i1 i2 fr = none) :
    WellFormed l (pairInstr i1 i2 fr) := by
  obtain ⟨h1, h2, hfr⟩ : slot1Error l (frameFmt fr) i1 = none ∧ slot2Error l (frameFmt fr) i2 = none
      ∧ frameError l fr = none := by
    simpa only [slotsError, orElse_eq_none] using h
  by_cases hone : i2.op = .nop ∧ i1.op ≠ .nop
  · unfold pairInstr
    rw [if_pos hone]
    exact wellFormed_instrOf (orElse_eq_none.2 ⟨h1, hfr⟩)
  by_cases htwo : i1.op = .nop ∧ i2.op ≠ .nop
  · unfold pairInstr
    rw [if_neg hone, if_pos htwo]
    exact wellFormed_instrOf (orElse_eq_none.2 ⟨rfl, orElse_eq_none.2 ⟨h2, hfr⟩⟩)
  · have hboth : (i1.op == .nop) = (i2.op == .nop) := by
      rw [Bool.eq_iff_iff, beq_iff_eq, beq_iff_eq]
      tauto
    have hpair : pairError l i1 i2 fr = none := by
      simp only [pairError, orElse_eq_none, require_eq_none, beq_iff_eq]
      exact ⟨h1, h2, hfr, hboth⟩
    rw [pairInstr_both hboth]
    cases fr <;> exact hpair

theorem sound_decode8 (w w2 : Long) : Sound l (decode8 l w w2) := by
  unfold decode8
  split
  · refine sound_zeros _ ?_
    split
    · rename_i h; exact sound_ok (wellFormed_pairInstr h)
    · exact sound_error _
  · exact sound_error _

/-- Every instruction that the decoder answers is well-formed. -/
theorem wellFormed_of_decode {w w2 : Long} {i : Instr} (h : decode l w w2 = .ok i) :
    WellFormed l i := by
  have hsound : Sound l (decode l w w2) :=
    .ite (sound_decode8 ..) <| .ite (sound_zeros _ (sound_decodeOp ..)) <| .ite (sound_decode2 ..) <|
    .ite (sound_decode3 w) <| .ite (sound_decode4 ..) <| .ite (sound_decode6 w) <|
    .ite (sound_decodeOp ..) <| .ite (sound_decodeOp ..) (sound_error _)
  exact hsound.wf i h

end Sound

/-! ### What a well-formed instruction satisfies -/

/-- A long or double operand is an even register. -/
theorem even_of_fits {v : Width} {n : RegNo} (h : fits v n = true) (hv : v ≠ .w16) :
    n.getLsbD 0 = false := by
  simpa [fits, isEven, hv] using h

theorem even_fst {op : Op} {o : Opnd} (h : fstError op o = none) (huse : op.info.shape.uses.1 = true)
    (hv : op.info.fst ≠ .w16) (n : RegNo) (ho : Src.ofOpnd o = .reg n) : n.getLsbD 0 = false := by
  cases o with
  | reg m =>
    cases ho
    exact even_of_fits (by simpa [fstError, huse] using h) hv
  | imm5 k => cases ho

theorem even_snd {op : Op} {n : RegNo} (h : sndError op n = none)
    (huse : op.info.shape.uses.2.1 = true) (hv : op.info.snd ≠ .w16) : n.getLsbD 0 = false :=
  even_of_fits (by simpa [sndError, huse] using h) hv

/-- The destination field; in a two-address form it is the second source too (R130). -/
theorem even_dst {op : Op} {two : Bool} {n : RegNo} (h : dstError op two n = none)
    (huse : op.info.shape.uses.2.2 = true) :
    (op.info.dst ≠ .w16 → n.getLsbD 0 = false)
      ∧ (two = true → op.info.shape.uses.2.1 = true → op.info.snd ≠ .w16 → n.getLsbD 0 = false) := by
  simp only [dstError, huse, if_true, require_eq_none, Bool.and_eq_true] at h
  refine ⟨even_of_fits h.1, fun htwo hsnd => even_of_fits (by simpa [htwo, hsnd] using h.2)⟩

/-- Only an operation with a destination has a second source (R131). -/
theorem uses_dst_of_snd {sh : Shape} (h : sh.uses.2.1 = true) : sh.uses.2.2 = true := by
  cases sh <;> simp_all [Shape.uses]

/-- The operands of a three-address form. -/
theorem evenOperands_three {op : Op} {o : Opnd} {s2 d : RegNo} {two : Bool} (three scale : Bool)
    (h1 : fstError op o = none) (h2 : sndError op s2 = none) (h3 : dstError op two d = none) :
    evenOperands op ⟨.ofOpnd o, s2, d, three, scale⟩ :=
  ⟨even_fst h1, even_snd h2, fun huse => (even_dst h3 huse).1⟩

/-- The operands of a two-address form. -/
theorem evenOperands_two {op : Op} {o : Opnd} {d : RegNo} (h1 : fstError op o = none)
    (h3 : dstError op true d = none) : evenOperands op ⟨.ofOpnd o, d, d, false, false⟩ :=
  ⟨even_fst h1, fun huse => (even_dst h3 (uses_dst_of_snd huse)).2 rfl huse,
    fun huse => (even_dst h3 huse).1⟩

theorem even_of_regError {x : XferRR} (h : regError x = none) (hl : x.l = true) :
    x.rs.getLsbD 0 = false ∧ x.rd.getLsbD 0 = false := by
  simpa [regError, isEven, hl] using h

theorem mode_of_memError {l : Launch} {x : XferX} (h : memError l x = none) : x.mode ≠ l.modeImm := by
  simpa [memError] using h

theorem frameExists_of_frameError {l : Launch} {fr : Frame} (h : frameError l fr = none) :
    frameExists l fr := by
  cases fr with
  | a at2 x => exact mode_of_memError h
  | b at2 x => exact even_of_regError h
  | c cc rs rd => trivial
  | d x => trivial

/-- What R128 asks of an operation in a form. -/
def FormExists (l : Launch) (op : Op) (f : Form) : Prop :=
  fmtOf f ∈ op.info.formats ∧ (f.binding.scale = true → op.info.scaling = true)
    ∧ evenOperands op f.binding ∧ transferExists l f
    ∧ ∀ cc imm s2 d, f = .f2 cc imm s2 d → op.info.fst = .w16 → imm.extractLsb' 16 16 = 0

theorem mem_formats {op : Op} {fmt : Fmt} (h : fmtError op fmt = none) : fmt ∈ op.info.formats := by
  simpa [fmtError] using h

theorem fmtOf_f8 (slot : SlotPos) (m : Bool) (s1 : Opnd) (s2 d : RegNo) (fr : Frame) :
    fmtOf (.f8 slot m s1 s2 d fr) = frameFmt fr := by
  cases fr <;> rfl

/-- The checks of a form are what R128 asks. -/
theorem formExists_of_formError {l : Launch} {op : Op} {f : Form} (h : formError l op f = none) :
    FormExists l op f := by
  cases f with
  | f1 cc s1 s2 d =>
    simp only [formError, orElse_eq_none] at h
    obtain ⟨-, hf, h1, h2, h3⟩ := h
    exact ⟨mem_formats hf, nofun, evenOperands_three _ _ h1 h2 h3, trivial, nofun⟩
  | f2 cc v s2 d =>
    simp only [formError, orElse_eq_none] at h
    obtain ⟨-, hf, hv, h2, h3⟩ := h
    refine ⟨mem_formats hf, nofun, ⟨nofun, even_snd h2, fun huse => (even_dst h3 huse).1⟩, trivial, ?_⟩
    intro _ _ _ _ heq hw
    cases heq
    simpa [immError, hw] using hv
  | f3 v d =>
    simp only [formError, orElse_eq_none] at h
    obtain ⟨-, hf, h3⟩ := h
    exact ⟨mem_formats hf, nofun,
      ⟨nofun, fun huse => (even_dst h3 (uses_dst_of_snd huse)).2 rfl huse,
        fun huse => (even_dst h3 huse).1⟩, trivial, nofun⟩
  | f4 s d x =>
    simp only [formError, orElse_eq_none] at h
    obtain ⟨-, hf, h1, h3, hx⟩ := h
    exact ⟨mem_formats hf, nofun, evenOperands_two h1 h3, mode_of_memError hx, nofun⟩
  | f5 s d x =>
    simp only [formError, orElse_eq_none] at h
    obtain ⟨-, hf, h1, h3, hx⟩ := h
    exact ⟨mem_formats hf, nofun, evenOperands_two h1 h3, even_of_regError hx, nofun⟩
  | f6 s d x =>
    simp only [formError, orElse_eq_none] at h
    obtain ⟨-, hf, h1, h3⟩ := h
    exact ⟨mem_formats hf, nofun, evenOperands_two h1 h3, trivial, nofun⟩
  | f7 cc s d x =>
    simp only [formError, orElse_eq_none] at h
    obtain ⟨-, hf, h1, h3, hx⟩ := h
    refine ⟨mem_formats hf, nofun, evenOperands_two (o := .reg s) h1 h3, fun hsr hlsc => ?_, nofun⟩
    simpa [immRegError, isEven, hsr, hlsc] using hx
  | f8 slot m s1 s2 d fr =>
    cases slot with
    | op1 =>
      cases s1 with
      | imm5 k => cases h
      | reg n =>
        simp only [formError, slot1Error, orElse_eq_none] at h
        obtain ⟨⟨-, hf, hm, h1, h2, h3⟩, hfr⟩ := h
        exact ⟨fmtOf_f8 .. ▸ mem_formats hf, fun hs => by simpa [show m = true from hs] using hm,
          evenOperands_three (o := .reg n) _ _ h1 h2 h3, frameExists_of_frameError hfr, nofun⟩
    | op2 =>
      simp only [formError, slot2Error, orElse_eq_none] at h
      obtain ⟨hm, ⟨-, hf, h1, h2, h3⟩, hfr⟩ := h
      exact ⟨fmtOf_f8 .. ▸ mem_formats hf, fun hs => by simp [show m = true from hs] at hm,
        evenOperands_three _ _ h1 h2 h3, frameExists_of_frameError hfr, nofun⟩

/-- The checks of a pair are what R128 asks. -/
theorem pairExists_of_pairError {l : Launch} {i1 : Slot1} {i2 : Slot2} {fr : Frame}
    (h : pairError l i1 i2 fr = none) : pairExists l i1 i2 fr := by
  simp only [pairError, slot1Error, slot2Error, orElse_eq_none] at h
  obtain ⟨⟨-, hf, hm, h1, h2, h3⟩, ⟨-, hf', h1', h2', h3'⟩, hfr, -⟩ := h
  exact ⟨mem_formats hf, mem_formats hf', fun hs => by simpa [hs] using hm,
    evenOperands_three (o := .reg i1.s1) _ _ h1 h2 h3, evenOperands_three _ _ h1' h2' h3',
    frameExists_of_frameError hfr⟩

/-! ### Opcodes that no operation has -/

/-- A lookup finds nothing where neither the tables nor the launch assign the bits. -/
theorem lookup7_eq_none {l : Launch} {bits : BitVec 7} {hash : Bool}
    (htable : codeCell bits hash ∉ cellsOf (Op.code .reset) Op.all) (hcvfe : l.cvfeOpcode ≠ some bits)
    (hopen : ∀ b, bits = 0b11#2 ++ b → l.mpf2sCode ≠ some (b, hash) ∧ l.mpylCode ≠ some (b, hash)) :
    lookup7 l bits hash = none := by
  cases hlook : lookup7 l bits hash with
  | none => rfl
  | some found =>
    obtain ⟨c, hc, hr⟩ := searchCode_eq_some hlook
    obtain h | ⟨h, -⟩ | ⟨b, hb, h | h⟩ := assigned_or_open hc (Option.isSome_of_eq_some hr)
    · exact absurd h htable
    · exact absurd h hcvfe
    · exact absurd h (hopen b hb).1
    · exact absurd h (hopen b hb).2

/-- The OP1 slot takes the OP1 codes of formats 1 to 7, and the second opcode of NOP. -/
theorem lookup1_eq_none {l : Launch} {bits : BitVec 7} (hnop : bits ≠ 0b1000000#7)
    (h : lookup7 l bits false = none) : lookup1 l bits = none := by
  cases hlook : lookup1 l bits with
  | none => rfl
  | some op =>
    obtain ⟨hb, -⟩ | hc := lookup1_eq_some hlook
    · exact absurd hb hnop
    · have hop := List.findSome?_eq_none_iff.1 h op op.mem_all
      simp [hc, OpCode.read, OpCode.bits] at hop

/-- The same for the OP2 slot. -/
theorem lookup2_eq_none {l : Launch} {bits : BitVec 5} {hash : Bool}
    (htable : codeCell (0b11#2 ++ bits) hash ∉ cellsOf (Op.code2 .reset) Op.all)
    (hopen : l.mpf2sCode ≠ some (bits, hash) ∧ l.mpylCode ≠ some (bits, hash)
      ∧ l.addlOp2Code ≠ some (bits, hash)) : lookup2 l bits hash = none := by
  obtain ⟨hmpf2s, hmpyl, haddl⟩ := hopen
  cases hlook : lookup2 l bits hash with
  | none => rfl
  | some found =>
    obtain ⟨c, hc, hr⟩ := searchCode_eq_some hlook
    obtain h | h | h | h := assigned2_or_open hc (Option.isSome_of_eq_some hr)
    · exact absurd h htable
    · exact absurd h hmpf2s
    · exact absurd h hmpyl
    · exact absurd h haddl

/-- The upper opcode bits 11 mark the OP2 codes (R125). -/
theorem highBits_append (b : BitVec 5) : (0b11#2 ++ b).extractLsb' 5 2 = 0b11#2 :=
  BitVec.extractLsb'_append_eq_left

/-- An OP1 opcode is assigned with `#` = 0 only (R125). -/
theorem lookup7_op1_hash (l : Launch) {bits : BitVec 7} (h : bits.extractLsb' 5 2 ≠ 0b11#2) :
    lookup7 l bits true = none := by
  cases hlook : lookup7 l bits true with
  | none => rfl
  | some found =>
    obtain ⟨c, -, hr⟩ := searchCode_eq_some hlook
    have hb := OpCode.bits_of_read (Option.isSome_of_eq_some hr)
    cases c with
    | op1 b => simp [OpCode.read] at hr
    | op2 b hash => exact absurd (hb ▸ highBits_append b) h
    | shift b => exact absurd (hb ▸ highBits_append b) h

theorem highBits_of_op1 {op : Op} {b : BitVec 7} (h : op.info.code = some (.op1 b)) :
    b.extractLsb' 5 2 ≠ 0b11#2 := by
  cases op <;> cases h <;> decide

/-- No OP2 code stands in the OP1 slot (R128). -/
theorem lookup1_op2 {l : Launch} {bits : BitVec 7} (h : bits.extractLsb' 5 2 = 0b11#2)
    (hcvfe : l.cvfeOpcode ≠ some bits) : lookup1 l bits = none := by
  cases hlook : lookup1 l bits with
  | none => rfl
  | some op =>
    obtain ⟨rfl, -⟩ | hc := lookup1_eq_some hlook
    · exact absurd h (by decide)
    · by_cases hop : op ∈ [Op.cvfe, .mpf2s, .mpyl]
      · simp only [List.mem_cons, List.not_mem_nil, or_false] at hop
        obtain rfl | rfl | rfl := hop
        · obtain ⟨b, hb, heq⟩ := Option.map_eq_some_iff.1 hc
          cases heq
          exact absurd hb hcvfe
        · obtain ⟨b, -, heq⟩ := Option.map_eq_some_iff.1 hc
          cases heq
        · obtain ⟨b, -, heq⟩ := Option.map_eq_some_iff.1 hc
          cases heq
      · rw [code_of_assigned hop] at hc
        exact absurd h (highBits_of_op1 hc)

/-! ### Refused words -/

/-- The words stand for no instruction. -/
def Refused (r : Except DecodeError Instr) : Prop := ∃ e, r = .error e

theorem refused_error (e : DecodeError) : Refused (.error e) := ⟨e, rfl⟩

theorem refused_zeros {ok : Bool} (h : ok = false) (r : Except DecodeError Instr) :
    Refused (zeros ok r) := by
  subst h
  exact refused_error _

theorem Refused.zeros {r : Except DecodeError Instr} (h : Refused r) (ok : Bool) :
    Refused (zeros ok r) := by
  cases ok with
  | true => exact h
  | false => exact refused_error _

theorem refused_decodeOp {l : Launch} {bits : BitVec 7} {hash : Bool} {form : Op → Bool → Form}
    (h : lookup7 l bits hash = none) : Refused (decodeOp l bits hash form) := by
  simp only [decodeOp, h]
  exact refused_error _

section Lookups

variable {l : Launch} {w w2 : Long}

theorem refused_decode1 (h : lookup7 l (w.extractLsb' 0 7) (w.getLsbD 16) = none) :
    Refused (decode1 l w) :=
  (refused_decodeOp h).zeros _

theorem refused_decode2 (hop : ¬ (w.extractLsb' 0 7 = 0b0001100#7 ∨ w.extractLsb' 0 7 = 0b0001101#7))
    (h : lookup7 l (w.extractLsb' 0 7) false = none) : Refused (decode2 l w w2) := by
  simp only [decode2, hop, if_false]
  exact (refused_decodeOp h).zeros _

theorem refused_decode3 (hop : w.extractLsb' 0 7 ∉ format3Opcodes) (hrts : l.rtsWord = none)
    (h : lookup7 l (w.extractLsb' 0 7) false = none) : Refused (decode3 l w) := by
  rw [decode3_of_other hop, decode3Op_of_other (by simp [hrts])]
  exact refused_decodeOp h

theorem refused_decode4 (hmove : isMoveMem w = false)
    (h : lookup7 l (w.extractLsb' 0 7) (w.getLsbD 7) = none) : Refused (decode4 l w w2) := by
  unfold decode4
  rw [hmove]
  exact refused_decodeOp h

theorem refused_decode6 (hmove : ¬ (w.extractLsb' 0 7 = 0b1100111#7 ∧ (!w.getLsbD 7) = true))
    (h : lookup7 l (w.extractLsb' 0 7) (w.getLsbD 7) = none) : Refused (decode6 l w) := by
  unfold decode6
  simp only
  rw [if_neg hmove]
  exact refused_decodeOp h

theorem refused_decode8 (h : lookup1 l (w.extractLsb' 0 7) = none
    ∨ lookup2 l (w2.extractLsb' 0 5) (w2.getLsbD 5) = none) : Refused (decode8 l w w2) := by
  unfold decode8
  split
  · rename_i h1 h2
    obtain h | h := h
    · rw [h1] at h; cases h
    · rw [h2] at h; cases h
  · exact refused_error _

theorem refused_decode8_cells (h : (readFrame w w2).1 = false) : Refused (decode8 l w w2) := by
  unfold decode8
  split
  · exact refused_zeros h _
  · exact refused_error _

end Lookups

/-- The OP2 codes that R127 reserves for a value of `#` (R128). -/
def reservedOp2Codes : List (BitVec 5 × Bool) :=
  [(0b00000#5, true), (0b00011#5, true), (0b00111#5, false), (0b00111#5, true), (0b01101#5, true),
   (0b01111#5, true), (0b10011#5, true), (0b11110#5, true), (0b11111#5, false)]

theorem reservedOp2Codes_free : ∀ p ∈ reservedOp2Codes,
    codeCell (0b11#2 ++ p.1) p.2 ∉ cellsOf (Op.code2 .reset) Op.all := by decide

section Words

variable {l : Launch} {w w2 : Long}

/-- The opcodes that R126 and R127 leave unassigned, in every format. -/
theorem refused_unassigned
    (hop : w.extractLsb' 0 7 ∈ [0b1001011#7, 0b1010000#7, 0b1010011#7, 0b1010111#7])
    (hcvfe : l.cvfeOpcode ≠ some (w.extractLsb' 0 7))
    (hrts : w.extractLsb' 7 4 = 0b0011#4 → l.rtsWord = none) : Refused (decode l w w2) := by
  have hfree : ∀ bits ∈ [0b1001011#7, 0b1010000#7, 0b1010011#7, 0b1010111#7],
      bits.extractLsb' 5 2 ≠ 0b11#2 ∧ bits ≠ 0b1000000#7 ∧ bits ∉ format3Opcodes
        ∧ bits ∉ [0b0001100#7, 0b0001101#7, 0b1100111#7]
        ∧ ∀ hash, codeCell bits hash ∉ cellsOf (Op.code .reset) Op.all := by decide
  obtain ⟨hhigh, hnop, hflow, hother, htable⟩ := hfree _ hop
  simp only [List.mem_cons, List.not_mem_nil, or_false, not_or] at hother
  obtain ⟨hdo, hdo', hmove⟩ := hother
  have hlook (hash : Bool) : lookup7 l (w.extractLsb' 0 7) hash = none :=
    lookup7_eq_none (htable hash) hcvfe fun b hb => absurd (hb ▸ highBits_append b) hhigh
  obtain hf | hf | hf | hf | hf | hf | hf | hf | hf := format_cases w
  · rw [decode_of_format8 hf]
    exact refused_decode8 (.inl (lookup1_eq_none hnop (hlook false)))
  · rw [decode_of_format1 hf]
    exact refused_decode1 (hlook _)
  · rw [decode_of_format2 hf]
    exact refused_decode2 (by simp [hdo, hdo']) (hlook _)
  · rw [decode_of_format3 hf]
    exact refused_decode3 hflow (hrts hf) (hlook _)
  · rw [decode_of_format4 hf]
    refine refused_decode4 (Bool.eq_false_iff.2 fun h => ?_) (hlook _)
    exact hmove ((isMoveMem_iff w).1 h).2.2
  · rw [decode_of_format6 hf]
    exact refused_decode6 (fun h => hmove h.1) (hlook _)
  · rw [decode_of_format5 hf]
    exact refused_decodeOp (hlook _)
  · rw [decode_of_format7 hf]
    exact refused_decodeOp (hlook _)
  · rw [decode_of_format_unused hf]
    exact refused_error _

/-- An OP1 opcode with `#` = 1 (R125). -/
theorem refused_op1_hash (hop : (w.extractLsb' 0 7).extractLsb' 5 2 ≠ 0b11#2)
    (h : (w.extractLsb' 7 4 = 0b0001#4 ∧ w.getLsbD 16 = true)
      ∨ ((w.extractLsb' 9 2 ∈ [0b01#2, 0b10#2] ∨ w.extractLsb' 8 3 = 0b110#3) ∧ w.getLsbD 7 = true)) :
    Refused (decode l w w2) := by
  have hlook := lookup7_op1_hash l hop
  simp only [List.mem_cons, List.not_mem_nil, or_false] at h
  obtain ⟨hf, hhash⟩ | ⟨(hf | hf) | hf, hhash⟩ := h
  · rw [decode_of_format1 hf]
    exact refused_decode1 (hhash ▸ hlook)
  · rw [decode_of_format4 hf]
    exact refused_decode4 (by simp [isMoveMem, hhash]) (hhash ▸ hlook)
  · rw [decode_of_format6 hf]
    exact refused_decode6 (by simp [hhash]) (hhash ▸ hlook)
  · rw [decode_of_format5 hf]
    exact refused_decodeOp (hhash ▸ hlook)

/-- An OP2 code that R127 reserves for its value of `#`. -/
theorem refused_op2_reserved (hf : w.extractLsb' 7 4 = 0b0000#4)
    (hcode : (w2.extractLsb' 0 5, w2.getLsbD 5) ∈ reservedOp2Codes)
    (hfree : l.mpf2sCode ≠ some (w2.extractLsb' 0 5, w2.getLsbD 5)
      ∧ l.mpylCode ≠ some (w2.extractLsb' 0 5, w2.getLsbD 5)
      ∧ l.addlOp2Code ≠ some (w2.extractLsb' 0 5, w2.getLsbD 5)) : Refused (decode l w w2) := by
  have hcell := reservedOp2Codes_free _ hcode
  rw [decode_of_format8 hf]
  exact refused_decode8 (.inr (lookup2_eq_none hcell hfree))

/-- An OP2 opcode in the OP1 field (R128). -/
theorem refused_op2_in_op1 (hf : w.extractLsb' 7 4 = 0b0000#4)
    (hop : (w.extractLsb' 0 7).extractLsb' 5 2 = 0b11#2)
    (hcvfe : l.cvfeOpcode ≠ some (w.extractLsb' 0 7)) : Refused (decode l w w2) := by
  rw [decode_of_format8 hf]
  exact refused_decode8 (.inl (lookup1_op2 hop hcvfe))

/-- The opcode of MOVE where no MOVE is printed (R126, R127). -/
theorem refused_move_opcode (hop : w.extractLsb' 0 7 = 0b1100111#7)
    (hf : w.extractLsb' 7 4 ∈ [0b0001#4, 0b0010#4, 0b0011#4, 0b1110#4] ∨ w.extractLsb' 8 3 = 0b110#3)
    (hcvfe : l.cvfeOpcode ≠ some (w.extractLsb' 0 7))
    (hopen : ∀ hash, l.mpf2sCode ≠ some (0b00111#5, hash) ∧ l.mpylCode ≠ some (0b00111#5, hash))
    (hrts : w.extractLsb' 7 4 = 0b0011#4 → l.rtsWord = none) : Refused (decode l w w2) := by
  have htable : ∀ hash, codeCell 0b1100111#7 hash ∉ cellsOf (Op.code .reset) Op.all := by decide
  have hlook (hash : Bool) : lookup7 l (w.extractLsb' 0 7) hash = none := by
    refine lookup7_eq_none (hop ▸ htable hash) hcvfe fun b hb => ?_
    obtain rfl : b = 0b00111#5 := (BitVec.append_right_inj (0b11#2)).1 (hb.symm.trans hop)
    exact hopen hash
  simp only [List.mem_cons, List.not_mem_nil, or_false] at hf
  obtain (hf | hf | hf | hf) | hf := hf
  · rw [decode_of_format1 hf]
    exact refused_decode1 (hlook _)
  · rw [decode_of_format2 hf]
    exact refused_decode2 (by simp [hop]) (hlook _)
  · rw [decode_of_format3 hf]
    exact refused_decode3 (by rw [hop]; decide) (hrts hf) (hlook _)
  · rw [decode_of_format7 hf]
    exact refused_decodeOp (hlook _)
  · rw [decode_of_format5 hf]
    exact refused_decodeOp (hlook _)

/-! ### The cells printed 0 (R128) -/

theorem refused_cells1 (hf : w.extractLsb' 7 4 = 0b0001#4) (h : w.getLsbD 15 = true) :
    Refused (decode l w w2) := by
  rw [decode_of_format1 hf]
  exact refused_zeros (by simp only [h, Bool.not_true]) _

theorem refused_cells2d (hf : w.extractLsb' 7 4 = 0b0010#4)
    (hop : w.extractLsb' 0 7 ∈ [0b0001100#7, 0b0001101#7])
    (h : w.extractLsb' 27 5 ≠ 0 ∨ w2.extractLsb' 14 18 ≠ 0) : Refused (decode l w w2) := by
  simp only [List.mem_cons, List.not_mem_nil, or_false] at hop
  rw [decode_of_format2 hf, decode2, if_pos hop]
  refine refused_zeros ?_ _
  rw [Bool.and_eq_false_iff, beq_eq_false_iff_ne, beq_eq_false_iff_ne]
  exact h

theorem refused_cells2 (hf : w.extractLsb' 7 4 = 0b0010#4)
    (hop : w.extractLsb' 0 7 ∉ [0b0001100#7, 0b0001101#7]) (h : w.extractLsb' 15 2 ≠ 0) :
    Refused (decode l w w2) := by
  simp only [List.mem_cons, List.not_mem_nil, or_false] at hop
  rw [decode_of_format2 hf, decode2, if_neg hop]
  exact refused_zeros (beq_eq_false_iff_ne.2 h) _

theorem refused_cellsDofor (hf : w.extractLsb' 7 4 = 0b0011#4)
    (hop : w.extractLsb' 0 7 ∈ [0b0001010#7, 0b0001011#7]) (h : w.extractLsb' 27 5 ≠ 0) :
    Refused (decode l w w2) := by
  have hcell : (w.extractLsb' 27 5 == 0) = false := beq_eq_false_iff_ne.2 h
  simp only [List.mem_cons, List.not_mem_nil, or_false] at hop
  rw [decode_of_format3 hf]
  obtain hop | hop := hop
  · exact ⟨.nonzeroCell, by simp only [decode3, hop, hcell]; rfl⟩
  · exact ⟨.nonzeroCell, by simp only [decode3, hop, hcell]; rfl⟩

theorem refused_decodeTarget (hreg : w.getLsbD 27 = false)
    (h : w.extractLsb' 18 9 ≠ 0 ∨ w.extractLsb' 11 4 ≠ 0) (f : Cond → Target → Instr) :
    Refused (decodeTarget w f) := by
  unfold decodeTarget
  simp only [hreg, Bool.false_eq_true, if_false]
  refine refused_zeros ?_ _
  rw [Bool.and_eq_false_iff, beq_eq_false_iff_ne, beq_eq_false_iff_ne]
  exact h

theorem refused_cellsTarget (hf : w.extractLsb' 7 4 = 0b0011#4)
    (hop : w.extractLsb' 0 7 ∈ [0b0011100#7, 0b0011101#7, 0b0011110#7, 0b0011111#7, 0b0101100#7,
      0b0101101#7]) (hreg : w.getLsbD 27 = false)
    (h : w.extractLsb' 18 9 ≠ 0 ∨ w.extractLsb' 11 4 ≠ 0) : Refused (decode l w w2) := by
  have htarget : ∃ f, decode3 l w = decodeTarget w f := by
    simp only [List.mem_cons, List.not_mem_nil, or_false] at hop
    obtain hop | hop | hop | hop | hop | hop := hop <;> exact ⟨_, by simp [decode3, hop]; rfl⟩
  obtain ⟨f, htarget⟩ := htarget
  rw [decode_of_format3 hf, htarget]
  exact refused_decodeTarget hreg h f

theorem refused_cells2t (hf : w.extractLsb' 9 2 = 0b10#2) (hhash : w.getLsbD 7 = false)
    (hop : w.extractLsb' 0 7 = 0b1100111#7) (h : w.extractLsb' 29 3 ≠ 0 ∨ w.getLsbD 22 = true) :
    Refused (decode l w w2) := by
  rw [decode_of_format6 hf, decode6, if_pos ⟨hop, by rw [hhash]; rfl⟩]
  refine refused_zeros ?_ _
  rw [Bool.and_eq_false_iff, beq_eq_false_iff_ne, Bool.not_eq_false']
  exact h

theorem refused_cells6t (hf : w.extractLsb' 9 2 = 0b01#2) (hhash : w.getLsbD 7 = false)
    (hop : w.extractLsb' 0 7 = 0b1100111#7)
    (h : w.extractLsb' 27 5 ≠ 0 ∨ w.getLsbD 22 = true
      ∨ (w.extractLsb' 12 3 = l.modeImm ∧ w2.extractLsb' 16 16 ≠ 0)) : Refused (decode l w w2) := by
  rw [decode_of_format4 hf, decode4, if_pos ((isMoveMem_iff w).2 ⟨hf, hhash, hop⟩), decodeMoveMem]
  rw [← or_assoc] at h
  obtain h | ⟨hmode, h⟩ := h
  · refine refused_zeros ?_ _
    rw [Bool.and_eq_false_iff, beq_eq_false_iff_ne, Bool.not_eq_false']
    exact h
  · refine Refused.zeros ?_ _
    rw [if_pos (show (readXferX w).mode = l.modeImm from hmode)]
    exact refused_zeros (beq_eq_false_iff_ne.2 h) _

theorem refused_cells8 (hf : w.extractLsb' 7 4 = 0b0000#4)
    (h : (w2.extractLsb' 6 2 = 0b01#2 ∧ w2.getLsbD 8 = true)
      ∨ (w2.extractLsb' 6 2 = 0b10#2 ∧ (w.getLsbD 11 = true ∨ w2.getLsbD 10 = true))
      ∨ (w2.extractLsb' 6 2 = 0b11#2 ∧ w2.extractLsb' 15 2 ≠ 0)) : Refused (decode l w w2) := by
  rw [decode_of_format8 hf]
  refine refused_decode8_cells ?_
  obtain ⟨hfr, h⟩ | ⟨hfr, h | h⟩ | ⟨hfr, h⟩ := h
  · simp [readFrame, hfr, h, -BitVec.getLsbD_eq_getElem]
  · simp [readFrame, hfr, h, -BitVec.getLsbD_eq_getElem]
  · simp [readFrame, hfr, h, -BitVec.getLsbD_eq_getElem]
  · simpa [readFrame, hfr, -BitVec.getLsbD_eq_getElem] using h

/-- A word is its upper 21 bits, its format and its opcode. -/
theorem word_eq (w : Long) : w = w.extractLsb' 11 21 ++ w.extractLsb' 7 4 ++ w.extractLsb' 0 7 := by
  rw [BitVec.extractLsb'_append_extractLsb'_eq_extractLsb' (by decide),
    BitVec.extractLsb'_append_extractLsb'_eq_extractLsb' (by decide)]
  exact BitVec.extractLsb'_eq_self.symm

/-- The one word of NOP, ENDDO or STOP is refused with any other bit. -/
theorem upper_ne_zero {op7 : BitVec 7} {v : Long} (hv : 0#21 ++ 0b0011#4 ++ op7 = v)
    (hf : w.extractLsb' 7 4 = 0b0011#4) (hop : w.extractLsb' 0 7 = op7) (h : w ≠ v) :
    (w.extractLsb' 11 21 == 0) = false := by
  rw [beq_eq_false_iff_ne]
  intro hzero
  rw [word_eq w, hzero, hf, hop] at h
  exact h hv

theorem nop_cells (hf : w.extractLsb' 7 4 = 0b0011#4) (hop : w.extractLsb' 0 7 = 0)
    (h : w ≠ 0x00000180) : decode l w w2 = .error .nonzeroCell := by
  rw [decode_of_format3 hf]
  simp only [decode3, hop, upper_ne_zero (by decide) hf hop h]
  rfl

theorem enddo_cells (hf : w.extractLsb' 7 4 = 0b0011#4) (hop : w.extractLsb' 0 7 = 0b0011011#7)
    (h : w ≠ 0x0000019B) : decode l w w2 = .error .nonzeroCell := by
  rw [decode_of_format3 hf]
  simp only [decode3, hop, upper_ne_zero (by decide) hf hop h]
  rfl

theorem stop_cells (hf : w.extractLsb' 7 4 = 0b0011#4) (hop : w.extractLsb' 0 7 = 0b1011110#7)
    (h : w ≠ 0xF80001DE) : decode l w w2 = .error .nonzeroCell := by
  have hcell : (w == 0xF80001DE#32) = false := beq_eq_false_iff_ne.2 h
  rw [decode_of_format3 hf]
  simp only [decode3, hop, hcell]
  rfl

end Words

/-- A word that the decoder refuses is a refused step (U1). -/
theorem step_of_reserved {s : State} {e : DecodeError} (hrun : s.running = true)
    (hfetch : s.fetchable = true)
    (h : decode s.launch (s.fetch s.pc) (s.fetch (s.pc + 1)) = .error e) :
    step s = .refused (.reserved e) := by
  obtain ⟨hfirst, hsecond⟩ := Bool.and_eq_true_iff.1 hfetch
  have hcurrent : s.current = .refused (.reserved e) := by
    unfold State.current
    cases htwo : isTwoWords s.launch (s.fetch s.pc) <;> simp_all
  simp only [step, hrun, hcurrent]
  rfl

/-- Settles O31: the reserved words fail a lookup or a check of cells, and what passes the checks is
well-formed. -/
theorem reservedWordsAreRefused : Obligations.ReservedWordsAreRefused := by
  refine ⟨fun s e => step_of_reserved, fun l w w2 => decode_of_format_unused,
    fun l w w2 hf => ⟨nop_cells hf, enddo_cells hf, stop_cells hf⟩, ?_, fun l w w2 i h => ?_⟩
  · intro l w w2 opcode format code hash free refused noRts
    refine ⟨refused_unassigned, fun hf hmem hfree => ?_, fun hf hop hcvfe => ?_, refused_op1_hash,
      fun hop hf hcvfe h0 h1 hrts => ?_, refused_cells1, fun hf => ?_, refused_cellsDofor,
      refused_cellsTarget, refused_cells2t, refused_cells6t, refused_cells8⟩
    · exact refused_op2_reserved hf hmem hfree
    · exact refused_op2_in_op1 hf hop hcvfe
    · refine refused_move_opcode hop hf hcvfe (fun hash => ?_) hrts
      cases hash with
      | false => exact ⟨h0.1, h0.2.1⟩
      | true => exact ⟨h1.1, h1.2.1⟩
    · split
      · rename_i hop; exact refused_cells2d hf hop
      · rename_i hop; exact refused_cells2 hf hop
  · have hwf : WellFormed l i := wellFormed_of_decode h
    refine ⟨fun op f hp => ?_, ?_⟩
    · have hform : formError l op f = none := by simpa only [WellFormed, instrError, hp] using hwf
      exact formExists_of_formError hform
    · cases i with
      | move f =>
        cases f with
        | rr cc x => exact even_of_regError hwf
        | mem cc x => exact mode_of_memError hwf
        | _ => trivial
      | frame8a i1 i2 at2 x => exact pairExists_of_pairError hwf
      | frame8b i1 i2 at2 x => exact pairExists_of_pairError hwf
      | frame8c i1 i2 cc rs rd => exact pairExists_of_pairError hwf
      | frame8d i1 i2 x => exact pairExists_of_pairError hwf
      | _ => trivial

end Sys2Proof

/-! The integer sums and differences (spec/40_abs_to_ad1.md and the pages of their kin): an instruction
answers what its operation and the transfer beside it write (`exec_next`), each shared result is said
once in the words of the rules, and the obligations are these results at the operations' operands. -/

namespace Sys2Proof.Machine

/-! ### An ALU instruction by its operation -/

section Run

variable {i : Instr} {op : Op} {f : Form} {s : State} {ex : Effect}

/-- An ALU instruction whose operation and transfer complete, in a combination that nothing forbids. -/
theorem exec_next {e : Effect} (hb : beside s f = .next ex) (hp : partsOf i = some (op, f))
    (halu : aluOf op s f.binding = .next e) (hstop : formStop s op f = none) :
    exec i s = .next (after s f e ex) := by
  rw [exec_of_parts i op f s hp]
  exact runForm_next op _ f s e ex halu hb hstop

/-- No format 8 combination of the operation is refused (spec/70_reset_and_hazards.md R555). -/
def combinesFreely (op : Op) : Bool := !clashesWithY op && op != .insl

theorem formStop_of_combinesFreely (h : combinesFreely op = true) (s : State) (f : Form) :
    formStop s op f = none := by
  obtain ⟨hclash, hinsl⟩ := Bool.and_eq_true_iff.1 h
  exact formStop_none s op f (by simpa using hclash) (by simpa using hinsl)

/-- An ALU instruction whose operation combines freely. -/
theorem exec_next_of_free {e : Effect} (hb : beside s f = .next ex)
    (hp : partsOf i = some (op, f)) (halu : aluOf op s f.binding = .next e)
    (hfree : combinesFreely op = true := by rfl) :
    exec i s = .next (after s f e ex) :=
  exec_next hb hp halu (formStop_of_combinesFreely hfree s f)

/-- An instruction with a `short` result from its exact value. -/
theorem exec_arith16 {x : Int} {c : Option Bool} (hb : beside s f = .next ex)
    (hp : partsOf i = some (op, f)) (halu : aluOf op s f.binding = arith16 op f.binding x c)
    (hfree : combinesFreely op = true := by rfl) :
    let y := f.binding.scaled op x
    let r := BitVec.ofInt 16 y
    exec i s = .next (after s f
      { regs := [(f.binding.dst, r)], flags := [resultFlags r (some (lost y r)) c] } ex) :=
  exec_next_of_free hb hp (halu.trans (arith16_eq ..)) hfree

/-- An instruction with a `long` result from its exact value. -/
theorem exec_arith32 {x : Int} {c : Option Bool} (hb : beside s f = .next ex)
    (hp : partsOf i = some (op, f)) (halu : aluOf op s f.binding = arith32 op f.binding x c)
    (hfree : combinesFreely op = true := by rfl) :
    let y := f.binding.scaled op x
    let r := BitVec.ofInt 32 y
    exec i s = .next (after s f
      { regs := write32 f.binding.dst r, flags := [resultFlags r (some (lost y r)) c] } ex) :=
  exec_next_of_free hb hp (halu.trans (arith32_eq ..)) hfree

end Run

/-! ### Sums and differences of one width -/

/-- V of a 16-bit result as the rule words it (R43). -/
theorem lost_ofInt_16 (x : Int) : lost x (BitVec.ofInt 16 x) = overflows 16 x :=
  (overflows_eq 16 x (by decide)).symm

/-- V of a 32-bit result as the rule words it (R43). -/
theorem lost_ofInt_32 (x : Int) : lost x (BitVec.ofInt 32 x) = overflows 32 x :=
  (overflows_eq 32 x (by decide)).symm

/-- The borrow in of a subtraction is the complement of C (R483). -/
theorem one_sub_toNat (k : Bool) : (1 : Int) - k.toNat = (!k).toNat := by
  cases k <;> rfl

/-- Settles O1: each operation is one exact 16-bit result, and its C is a carry out. -/
theorem shortSums : Obligations.ShortSums := by
  intro f s ex hb b a c k done
  simp only [← addCarry_eq, one_sub_toNat, zero_sub]
  exact ⟨exec_arith16 hb rfl rfl, exec_arith16 hb rfl rfl, exec_arith16 hb rfl rfl,
    exec_arith16 hb rfl rfl, exec_arith16 hb rfl rfl, exec_arith16 hb rfl rfl,
    exec_arith16 hb rfl rfl, exec_arith16 hb rfl rfl⟩

/-- The sign-extension of a half, by its two halves. -/
theorem signExtend_eq_append (a : Half) :
    a.signExtend 32 = (if a.msb then 0xFFFF#16 else 0#16) ++ a := by
  rw [BitVec.signExtend_eq_append_of_le (by decide)]
  cases a.msb <;> rfl

/-- The extended operand of ADC16L as its rule words it (R204). -/
theorem adc16lExt_eq (s : State) (a : Half) :
    adc16lExt s a = if s.flagV then (if s.flagC then 0xFFFF#16 else 0#16) ++ a
      else a.signExtend 32 := by
  unfold adc16lExt
  cases s.flagV with
  | true => rfl
  | false => exact (signExtend_eq_append a).symm

/-- Settles O2: each operation is one exact 32-bit result, and its C is a carry out. -/
theorem longSums : Obligations.LongSums := by
  intro f s ex hb b a c k short ext done
  have hext : adc16lExt s short = ext := adc16lExt_eq s short
  simp only [← addCarry_eq, one_sub_toNat, zero_sub, ← hext]
  exact ⟨exec_arith32 hb rfl rfl, exec_arith32 hb rfl rfl, exec_arith32 hb rfl rfl,
    exec_arith32 hb rfl rfl, exec_arith32 hb rfl rfl, exec_arith32 hb rfl rfl,
    exec_arith32 hb rfl rfl, exec_arith32 hb rfl rfl⟩

/-! ### Absolute values -/

/-- The magnitude of a number at its width: the number or its negative. -/
theorem ofInt_abs_toInt {n : Nat} (x : BitVec n) :
    BitVec.ofInt n |x.toInt| = if x.msb then 0 - x else x := by
  rw [BitVec.msb_eq_toInt]
  by_cases hneg : x.toInt < 0
  · rw [abs_of_neg hneg, BitVec.ofInt_neg, BitVec.ofInt_toInt]
    simp [hneg]
  · rw [abs_of_nonneg (not_lt.1 hneg), BitVec.ofInt_toInt]
    simp [hneg]

/-- Only the magnitude of the most negative number does not fit (R200). -/
theorem lost_abs_toInt {n : Nat} (x : BitVec n) (hn : 0 < n) :
    lost |x.toInt| (BitVec.ofInt n |x.toInt|) = decide (x = BitVec.intMin n) := by
  have hlow : -2 ^ (n - 1) ≤ x.toInt := BitVec.le_toInt x
  have hhigh : x.toInt < 2 ^ (n - 1) := BitVec.toInt_lt
  rw [← overflows_eq n _ hn, overflows, ← Int.natCast_natAbs, Bool.eq_iff_iff]
  simp only [Bool.or_eq_true, decide_eq_true_eq, ← BitVec.toInt_inj, BitVec.toInt_intMin_of_pos hn]
  generalize (2 : Int) ^ (n - 1) = p at hlow hhigh ⊢
  omega

/-- The flags of an absolute value: those of a result but N and C. -/
theorem flagsAbs_eq {n : Nat} (r : BitVec n) (v : Bool) (h : 2 ≤ n) :
    ({ u := some (unnorm r), z := some (r == 0), v := some v } : FlagUpd)
      = { resultFlags r (some v) none with n := none } := by
  rw [← flagsVC_eq r _ _ h]
  rfl

/-- Without Scaling the exact result is taken as it is (R121). -/
theorem scaled_of_not_scale {b : Binding} (h : b.scale = false) (op : Op) (x : Int) :
    b.scaled op x = x := by
  simp [Binding.scaled, h]

/-- Settles O3: the operations are the magnitude with its flags, and unscaled it is lost only for the
most negative number. -/
theorem absoluteValues : Obligations.AbsoluteValues := by
  intro f s ex hb b a c y r yl rl
  refine ⟨exec_next_of_free (op := .abs) hb rfl ?_, exec_next_of_free (op := .absl) hb rfl ?_,
    fun hscale => ?_⟩
  · rw [← flagsAbs_eq r _ (by decide), lost_ofInt_16]
    simp only [y, r, a, ← Int.natCast_natAbs]
    rfl
  · rw [← flagsAbs_eq rl _ (by decide), lost_ofInt_32]
    simp only [yl, rl, c, ← Int.natCast_natAbs]
    rfl
  · simp only [r, rl, y, yl, scaled_of_not_scale hscale]
    exact ⟨ofInt_abs_toInt a, lost_abs_toInt a (by decide), ofInt_abs_toInt c,
      lost_abs_toInt c (by decide)⟩

/-! ### Rounding to the high half (R462) -/

/-- The rounding increment as the rule words it. -/
theorem roundUp_eq (x : Long) (rnd : Bool) : roundUp x rnd = (rnd16 x rnd).toNat := by
  have h := roundedHigh_eq x rnd
  unfold roundedHigh highRounded hi16 at h
  omega

/-- The rounded high half of an exact sum or difference `x`, at 32 bits: V looks at `x` itself and at
the scaled rounded value. -/
theorem roundLong_eq (op : Op) (s : State) (b : Binding) (x : Int) (c : Bool) :
    let t := BitVec.ofInt 32 x
    let y := b.scaled op (highRounded t s.rnd * 65536)
    let r := BitVec.ofInt 32 y
    roundLong op s b x c = .next
      { regs := write32 b.dst r
        flags := [resultFlags r (some (lost x t || lost y r)) (some c)] } := by
  simp only [roundLong, roundedHigh_eq, ← lost_ofInt_32, flagsVC_eq _ _ _ (by decide : 2 ≤ 32)]

/-- As `roundLong_eq`, at 16 bits. -/
theorem roundShort_eq (op : Op) (s : State) (b : Binding) (x : Int) (c : Bool) :
    let t := BitVec.ofInt 32 x
    let y := b.scaled op (highRounded t s.rnd)
    let r := BitVec.ofInt 16 y
    roundShort op s b x c = .next
      { regs := [(b.dst, r)]
        flags := [resultFlags r (some (lost x t || lost y r)) (some c)] } := by
  simp only [roundShort, write16, roundedHigh_eq, ← lost_ofInt_32, ← lost_ofInt_16,
    flagsVC_eq _ _ _ (by decide : 2 ≤ 16)]

/-- The bits of an exact sum are the sum of the bits. -/
theorem ofInt_add_toInt {n : Nat} (a c : BitVec n) : BitVec.ofInt n (a.toInt + c.toInt) = a + c := by
  rw [BitVec.ofInt_add, BitVec.ofInt_toInt, BitVec.ofInt_toInt]

/-- The bits of an exact difference are the difference of the bits. -/
theorem ofInt_sub_toInt {n : Nat} (a c : BitVec n) : BitVec.ofInt n (c.toInt - a.toInt) = c - a := by
  rw [sub_eq_add_neg, BitVec.ofInt_add, BitVec.ofInt_neg, BitVec.ofInt_toInt, BitVec.ofInt_toInt,
    BitVec.sub_eq_add_neg]

/-- A number is the value of its own bits. -/
theorem lost_toInt {n : Nat} (x : BitVec n) : lost x.toInt x = false := by
  simp [lost]

/-- The carry out of a sum whose low halves are 0 is that of the high halves. -/
theorem addCarry_high (h : Half) (k : Bool) :
    addCarry (h ++ 0#16) (BitVec.ofNat 32 (k.toNat * 65536)) false
      = addCarry h (BitVec.ofNat 16 k.toNat) false := by
  have hh : (h ++ 0#16).toNat = h.toNat * 65536 := by
    rw [BitVec.toNat_append, Nat.shiftLeft_eq]
    exact Nat.or_zero _
  have hk := Bool.toNat_le k
  rw [addCarry, addCarry, hh, BitVec.toNat_ofNat, BitVec.toNat_ofNat, Bool.eq_iff_iff]
  simp only [decide_eq_true_eq, Bool.toNat_false]
  omega

/-- Settles O4: the sums and differences round what they compute exactly, FTRL and RNDL their operand,
and the carry of RNDL out of its high half is that of FTRL. -/
theorem rounding : Obligations.Rounding := by
  intro f s ex hb b a c long short rounded
  simp only [← addCarry_eq, roundUp_eq]
  refine ⟨?addlr, ?sublr, ?addlrtr, ?sublrtr, ?ftrl, ?rndl⟩
  case addlr =>
    simp only [long, ← ofInt_add_toInt]
    exact exec_next_of_free hb rfl (roundLong_eq .addlr s b (a.toInt + c.toInt) _)
  case sublr =>
    simp only [long, ← ofInt_sub_toInt]
    exact exec_next_of_free hb rfl (roundLong_eq .sublr s b (c.toInt - a.toInt) _)
  case addlrtr =>
    simp only [short, ← ofInt_add_toInt]
    exact exec_next_of_free hb rfl (roundShort_eq .addlrtr s b (a.toInt + c.toInt) _)
  case sublrtr =>
    simp only [short, ← ofInt_sub_toInt]
    exact exec_next_of_free hb rfl (roundShort_eq .sublrtr s b (c.toInt - a.toInt) _)
  case ftrl =>
    simp only [short, lost_toInt, Bool.false_or, ← roundedHigh_eq]
    exact exec_arith16 hb rfl rfl
  case rndl =>
    simp only [rounded, addCarry_high, ← roundedHigh_eq, lost_ofInt_32]
    exact exec_next_of_free hb rfl (bits32_eq ..)

/-! ### Two halves at once (spec/10_state.md R23) -/

/-- The flags of two halves as the rule words them: U of both, N and Z of the real one (R212). -/
theorem flagsPair_eq (r i : Half) (v : Bool) (c : Option Bool) :
    flagsPair r i (r == 0) (some v) c
      = { resultFlags r (some v) c with u := some (notNormal r && notNormal i) } := by
  rw [← unnorm_eq r (by decide), ← unnorm_eq i (by decide), ← flagsVC_eq r _ _ (by decide)]
  rfl

/-- The flags of a half sum beside a half difference as the rules word them: Z of the sum, U of both
(R235, R482). -/
theorem flagsSumDifSigns_eq (sum dif : Half) (n v c : Bool) :
    flagsSumDifSigns sum dif n v c
      = { resultFlags sum (some v) (some c) with
          u := some (notNormal sum && notNormal dif), n := some n } := by
  rw [← unnorm_eq sum (by decide), ← unnorm_eq dif (by decide), ← flagsVC_eq sum _ _ (by decide)]
  rfl

/-- The flags of ASH, whose N is that of the sum (R235). -/
theorem flagsSumDifSigns_sum (sum dif : Half) (v c : Bool) :
    flagsSumDifSigns sum dif sum.msb v c
      = { resultFlags sum (some v) (some c) with u := some (notNormal sum && notNormal dif) } :=
  flagsSumDifSigns_eq sum dif sum.msb v c

/-- Settles O5: each operation writes its two halves with the flags of the pair; SAH writes the
difference above the sum, so its V joins the two losses in the other order. -/
theorem halfPairs : Obligations.HalfPairs := by
  intro f s ex hb b ar ai cr ci done
  refine ⟨exec_next_of_free (op := .addx) hb rfl ?_, exec_next_of_free (op := .subx) hb rfl ?_,
    exec_next_of_free (op := .ash) hb rfl ?_, exec_next_of_free (op := .sah) hb rfl ?_⟩
  · simp only [lost_ofInt_16, ← flagsPair_eq, ← addCarry_eq]
    rfl
  · simp only [lost_ofInt_16, ← flagsPair_eq, ← addCarry_eq]
    rfl
  · simp only [lost_ofInt_16, ← flagsSumDifSigns_sum]
    rfl
  · simp only [lost_ofInt_16, ← flagsSumDifSigns_eq]
    rw [Bool.or_comm]
    rfl

/-! ### Sum and difference in one instruction -/

/-- The flags of a sum and a difference as the rules word them: U of both, the others of the sum (R209,
R210). -/
theorem flagsSumDif_eq {n : Nat} (sum dif : BitVec n) (v c : Bool) (h : 2 ≤ n) :
    flagsSumDif sum dif v c
      = { resultFlags sum (some v) (some c) with u := some (notNormal sum && notNormal dif) } := by
  rw [← unnorm_eq sum h, ← unnorm_eq dif h, ← flagsVC_eq sum _ _ h]
  rfl

/-- The operations with a second result are refused in the same combinations (U7). -/
theorem formStop_of_clashesWithY {op : Op} (h : clashesWithY op = true) (s : State) (f : Form) :
    formStop s op f = formStop s .addsub f := by
  have hinsl : op ≠ .insl := by
    rintro rfl
    cases h
  cases f with
  | f8 slot m s1 s2 d fr =>
    cases slot with
    | op1 => simp [formStop, frameStop, h, hinsl, show clashesWithY .addsub = true from rfl]
    | op2 => rfl
  | _ => rfl

/-- While DD = 1 the operations with a second result combine freely (U7). -/
theorem formStop_addsub_of_dd {s : State} (hdd : s.dd = true) (f : Form) :
    formStop s .addsub f = none := by
  cases f with
  | f8 slot m s1 s2 d fr => cases slot <;> simp [formStop, frameStop, hdd, clashesWithY]
  | _ => rfl

/-- Two results for one pair of registers: the pair takes one of them (U8). -/
theorem writeTwo32_same (s : State) (n : RegNo) (v1 v2 : Long) :
    ∃ v ∈ [v1, v2], writeTwo32 s n v1 n v2 = write32 n v :=
  ⟨_, resolve_mem (s.pick 96) v1 [v1, v2] nofun, if_pos rfl⟩

/-- A sum and a difference of 32 bits as ADDSUBL and ADDSUBX write them (R210, R211). -/
def sumAndDifference (s : State) (b : Binding) (sum dif : Long) (fl : FlagUpd) : Part :=
  if s.dd then
    if !b.three then .refused .twoAddressDD1
    else .next { regs := write64 b.dst (sum ++ dif), flags := [fl] }
  else .next { regs := writeTwo32 s (sumDest b) sum (difDest b) dif, flags := [fl] }

section TwoResults

variable {i : Instr} {op : Op} {f : Form} {s : State} {ex : Effect} {sum dif : Long}
  {fl : FlagUpd}

/-- While DD = 0 the two results go to two pairs, or one of them to the pair that both name. -/
theorem exec_sumAndDifference (hb : beside s f = .next ex)
    (hp : partsOf i = some (op, f))
    (halu : aluOf op s f.binding = sumAndDifference s f.binding sum dif fl)
    (hdd : s.dd = false) (hstop : formStop s op f = none) :
    let d1 := sumDest f.binding
    let d2 := difDest f.binding
    (d1 ≠ d2 → exec i s = .next (after s f
        { regs := write32 d1 sum ++ write32 d2 dif, flags := [fl] } ex))
      ∧ (d1 = d2 → ∃ v ∈ [sum, dif],
          exec i s = .next (after s f { regs := write32 d1 v, flags := [fl] } ex)) := by
  intro d1 d2
  have hrun : exec i s = .next (after s f
      { regs := writeTwo32 s d1 sum d2 dif, flags := [fl] } ex) :=
    exec_next hb hp (halu.trans (by simp [sumAndDifference, hdd, d1, d2])) hstop
  refine ⟨fun hne => ?_, fun heq => ?_⟩
  · rw [hrun, writeTwo32, if_neg hne]
  · obtain ⟨v, hv, hwrite⟩ := writeTwo32_same s d1 sum dif
    exact ⟨v, hv, by rw [hrun, ← heq, hwrite]⟩

/-- While DD = 1 a three-address form writes both results, the sum above the difference. -/
theorem exec_sumAndDifference_wide (hb : beside s f = .next ex)
    (hp : partsOf i = some (op, f))
    (halu : aluOf op s f.binding = sumAndDifference s f.binding sum dif fl)
    (hdd : s.dd = true) (hthree : f.binding.three = true) (hclash : clashesWithY op = true) :
    exec i s = .next (after s f
      { regs := write64 f.binding.dst (sum ++ dif), flags := [fl] } ex) :=
  exec_next hb hp (halu.trans (by simp [sumAndDifference, hdd, hthree]))
    ((formStop_of_clashesWithY hclash s f).trans (formStop_addsub_of_dd hdd f))

end TwoResults

/-- Settles O6: the flags first, then the destinations by DD and by whether they differ. -/
theorem sumsAndDifferences : Obligations.SumsAndDifferences := by
  intro f s ex hb b d1 d2 a c al cl hi lo ys yd sum dif flags16 zs zd suml difl flags32
    xsr xsi xdr xdi sr si dr di flagsX done
  have hflags16 : flagsSumDif sum dif (overflows 16 ys || overflows 16 yd) (addCarry a c false)
      = flags16 := by
    simp only [flags16, sum, dif, lost_ofInt_16, ← flagsSumDif_eq _ _ _ _ (by decide : 2 ≤ 16),
      ← addCarry_eq]
  have hl : aluOf .addsubl s b = sumAndDifference s b suml difl flags32 := by
    simp only [flags32, suml, difl, lost_ofInt_32, ← flagsSumDif_eq _ _ _ _ (by decide : 2 ≤ 32),
      ← addCarry_eq]
    rfl
  have hx : aluOf .addsubx s b = sumAndDifference s b (sr ++ si) (dr ++ di) flagsX := by
    simp only [flagsX, sr, si, dr, di, lost_ofInt_16, ← unnorm_eq _ (by decide : 2 ≤ 16),
      ← flagsVC_eq _ _ _ (by decide : 2 ≤ 16)]
    rfl
  refine ⟨fun hdd hstop => ?_, fun hdd hthree => ⟨fun heven => ?_, ?_, ?_⟩⟩
  · have hstop' {op : Op} (h : clashesWithY op = true) : formStop s op f = none :=
      (formStop_of_clashesWithY h s f).trans hstop
    obtain ⟨lapart, lsame⟩ := exec_sumAndDifference (i := .addsubl f) hb rfl hl hdd (hstop' rfl)
    obtain ⟨xapart, xsame⟩ := exec_sumAndDifference (i := .addsubx f) hb rfl hx hdd (hstop' rfl)
    refine ⟨exec_next (op := .addsub) hb rfl ?_ hstop, fun hne => ⟨lapart hne, xapart hne⟩,
      fun heq => ⟨lsame heq, xsame heq⟩⟩
    simp only [aluOf, aluAddsub, hdd, ← hflags16]
    rfl
  · refine exec_next (op := .addsub) hb rfl ?_ (formStop_addsub_of_dd hdd f)
    simp only [aluOf, aluAddsub, hdd, show f.binding.three = true from hthree,
      show isEven f.binding.dst = true from heven, ← hflags16]
    rfl
  · exact exec_sumAndDifference_wide hb rfl hl hdd hthree rfl
  · exact exec_sumAndDifference_wide hb rfl hx hdd hthree rfl

end Sys2Proof.Machine

/-! The logic operations and the shifts (spec/41_and_to_asrx.md and the pages of their kin): a result
that is written as it stands is one rule per width (`exec_bits16`, `exec_bits32`); a shift is a product
or a quotient by a power of two, and the bit that it moves out is said once per kind of shift. -/

namespace Sys2Proof.Machine

/-! ### Results that are written as they stand -/

section Run

variable {i : Instr} {op : Op} {f : Form} {s : State} {ex : Effect} {v c : Option Bool}

/-- An instruction with a `short` result that is written as it stands. -/
theorem exec_bits16 {r : Half} (hb : beside s f = .next ex) (hp : partsOf i = some (op, f))
    (halu : aluOf op s f.binding = bits16 f.binding r v c)
    (hfree : combinesFreely op = true := by rfl) :
    exec i s = .next (after s f
      { regs := [(f.binding.dst, r)], flags := [resultFlags r v c] } ex) :=
  exec_next_of_free hb hp (halu.trans (bits16_eq ..)) hfree

/-- An instruction with a `long` result that is written as it stands. -/
theorem exec_bits32 {r : Long} (hb : beside s f = .next ex) (hp : partsOf i = some (op, f))
    (halu : aluOf op s f.binding = bits32 f.binding r v c)
    (hfree : combinesFreely op = true := by rfl) :
    exec i s = .next (after s f
      { regs := write32 f.binding.dst r, flags := [resultFlags r v c] } ex) :=
  exec_next_of_free hb hp (halu.trans (bits32_eq ..)) hfree

end Run

/-- Settles O7: each operation is one 16-bit result written as it stands. -/
theorem shortLogic : Obligations.ShortLogic := by
  intro f s ex hb b a c done
  exact ⟨exec_bits16 hb rfl rfl, exec_bits16 hb rfl rfl, exec_bits16 hb rfl rfl,
    exec_bits16 hb rfl rfl, exec_bits16 hb rfl rfl, exec_bits16 hb rfl rfl,
    exec_bits16 hb rfl rfl, exec_bits16 hb rfl rfl, exec_bits16 hb rfl rfl⟩

/-- Settles O8: each operation is one 32-bit result written as it stands; only INSL has combinations
that are refused. -/
theorem longLogic : Obligations.LongLogic := by
  intro f s ex hb b a c d done
  exact ⟨exec_bits32 hb rfl rfl, exec_bits32 hb rfl rfl, exec_bits32 hb rfl rfl,
    exec_bits32 hb rfl rfl, exec_bits32 hb rfl rfl, exec_bits32 hb rfl rfl,
    exec_bits32 hb rfl rfl, exec_bits32 hb rfl rfl,
    fun hstop => exec_next hb rfl (bits32_eq ..) hstop⟩

/-! ### Shifts in the words of the rules (R236 to R243) -/

section Shift

variable {w : Nat} (x : BitVec w) (k : Nat)

/-- A left shift multiplies by a power of two. -/
theorem shiftLeft_eq_ofNat : x <<< k = BitVec.ofNat w (x.toNat * 2 ^ k) := by
  apply BitVec.eq_of_toNat_eq
  rw [BitVec.toNat_shiftLeft, BitVec.toNat_ofNat, Nat.shiftLeft_eq]

/-- A left shift multiplies the signed value by the same power of two. -/
theorem shiftLeft_eq_ofInt : x <<< k = BitVec.ofInt w (x.toInt * 2 ^ k) := by
  have hpow : BitVec.ofInt w (2 ^ k) = BitVec.twoPow w k := by
    apply BitVec.eq_of_toNat_eq
    rw [BitVec.toNat_twoPow, ← BitVec.toNat_ofNat, ← BitVec.ofInt_natCast]
    norm_cast
  rw [BitVec.ofInt_mul, BitVec.ofInt_toInt, hpow, BitVec.shiftLeft_eq_mul_twoPow]

/-- A logical right shift divides by a power of two. -/
theorem ushiftRight_eq_ofNat : x >>> k = BitVec.ofNat w (x.toNat / 2 ^ k) := by
  rw [← Nat.shiftRight_eq_div_pow, ← BitVec.toNat_ushiftRight, BitVec.ofNat_toNat,
    BitVec.setWidth_eq]

/-- An arithmetic right shift divides the signed value, downwards. -/
theorem sshiftRight_eq_ofInt : x.sshiftRight k = BitVec.ofInt w (x.toInt / 2 ^ k) := by
  rw [BitVec.sshiftRight_eq, Int.shiftRight_eq_div_pow]
  norm_cast

/-- V of an arithmetic left shift as the rule words it (R236). -/
theorem leftOverflow_eq (hw : 1 ≤ w) :
    leftOverflow x k = lost (x.toInt * 2 ^ k) (x <<< k) := by
  rw [leftOverflow, overflows_eq w _ hw, ← shiftLeft_eq_ofInt]

/-- The last bit that a left shift moves out, as the rule words it (R236). -/
theorem leftOut_eq : leftOut x k = (decide (1 ≤ k ∧ k ≤ w) && x.getLsbD (w - k)) := by
  unfold leftOut
  by_cases h : k = 0 ∨ w < k
  · rw [if_pos h, decide_eq_false (by omega), Bool.false_and]
  · rw [if_neg h, decide_eq_true (by omega), Bool.true_and]

/-- The last bit that a logical right shift moves out, as the rule words it (R359). -/
theorem rightOut_eq : rightOut x k = (decide (1 ≤ k) && x.getLsbD (k - 1)) := by
  cases k <;> simp [rightOut]

/-- The last bit that an arithmetic right shift moves out, as the rule words it: beyond the width the
sign (R239). -/
theorem arithOut_eq : arithOut x k = (decide (1 ≤ k) && x.getLsbD (min k w - 1)) := by
  unfold arithOut
  by_cases hzero : k = 0
  · simp [hzero]
  · rw [if_neg hzero, decide_eq_true (by omega : 1 ≤ k), Bool.true_and]
    by_cases hwide : w < k
    · rw [if_pos hwide, min_eq_right hwide.le, BitVec.msb_eq_getLsbD_last]
    · rw [if_neg hwide, min_eq_left (not_lt.1 hwide)]

/-- The last bit that a shift in place moves out, for a count below the width (R241). -/
theorem arithOut_below : (decide (k < w) && arithOut x k)
    = (decide (1 ≤ k ∧ k < w) && x.getLsbD (k - 1)) := by
  rw [arithOut_eq, ← Bool.and_assoc, Bool.decide_and, Bool.and_comm (decide (k < w))]
  by_cases h : k < w
  · rw [min_eq_left h.le]
  · simp [h]

/-- The flags of a shift that leaves N: those of a result but N. -/
theorem flagsShift_eq (r : BitVec w) (v c : Option Bool) (h : 2 ≤ w) :
    ({ u := some (unnorm r), z := some (r == 0), v := v, c := c } : FlagUpd)
      = { resultFlags r v c with n := none } := by
  rw [← flagsVC_eq r v c h]
  rfl

end Shift

/-- The count has six bits (R242). -/
theorem count_eq (b : Binding) (s : State) : b.count s = (b.fst16 s).toNat % 64 := by
  rw [Binding.count, BitVec.extractLsb'_toNat]
  rfl

/-- Settles O14: each shift is its product or quotient, with the bit that it moves out. -/
theorem shifts : Obligations.Shifts := by
  intro f s ex hb b n x xl out outl left leftl right rightl arith arithl m t y inPlace short long
  have hn : b.count s = n := count_eq b s
  refine ⟨exec_bits16 hb rfl ?lsl, exec_bits32 hb rfl ?lsll, exec_next_of_free (op := .asl) hb rfl ?asl,
    exec_next_of_free (op := .asll) hb rfl ?asll, exec_next_of_free (op := .lsr) hb rfl ?lsr,
    exec_next_of_free (op := .lsrl) hb rfl ?lsrl, exec_bits16 hb rfl ?asr, exec_bits32 hb rfl ?asrl,
    exec_next_of_free (op := .asrle) hb rfl ?asrle⟩
  case lsl | lsll =>
    simp only [left, leftl, out, outl, ← shiftLeft_eq_ofNat, ← leftOut_eq, ← hn]
    rfl
  case asl | asll =>
    simp only [left, leftl, out, outl, ← leftOverflow_eq _ _ (by decide : 1 ≤ 16),
      ← leftOverflow_eq _ _ (by decide : 1 ≤ 32), ← shiftLeft_eq_ofNat, ← leftOut_eq,
      ← flagsShift_eq _ _ _ (by decide : 2 ≤ 16), ← flagsShift_eq _ _ _ (by decide : 2 ≤ 32), ← hn]
    rfl
  case lsr | lsrl =>
    simp only [right, rightl, ← ushiftRight_eq_ofNat, ← rightOut_eq,
      ← flagsShift_eq _ _ _ (by decide : 2 ≤ 16), ← flagsShift_eq _ _ _ (by decide : 2 ≤ 32), ← hn]
    rfl
  case asr | asrl =>
    simp only [arith, arithl, ← sshiftRight_eq_ofInt, ← arithOut_eq, ← hn]
    rfl
  case asrle =>
    simp only [inPlace, ← sshiftRight_eq_ofInt, ← arithOut_below,
      ← flagsVC_eq _ _ _ (by decide : 2 ≤ 32)]
    rfl

/-! ### Shifts of both halves -/

/-- The count of the real half of LSLX and LSRX: six bits of the high half of the count operand, or
`#5` (R242). -/
theorem countHi_eq (b : Binding) (s : State) :
    b.countHi s = match b.fst with
      | .imm5 k => k.toNat
      | _ => ((b.fst32 s).extractLsb' 16 16).toNat % 64 := by
  have hsix (v : Long) : (v.extractLsb' 16 6).toNat = (v.extractLsb' 16 16).toNat % 64 := by
    simp only [BitVec.extractLsb'_toNat]
    exact (Nat.mod_mod_of_dvd _ (by decide : 64 ∣ 2 ^ 16)).symm
  unfold Binding.countHi Binding.fst32
  cases b.fst with
  | reg r => exact hsix _
  | imm5 k => rfl
  | imm v => exact hsix v

/-- Settles O15: the two halves are shifted as single values, each by its count. -/
theorem halfShifts : Obligations.HalfShifts := by
  intro f s ex hb b n nr r i left right arith leftOut rightOut ovf done
  have hn : b.count s = n := count_eq b s
  have hnr : b.countHi s = nr := countHi_eq b s
  refine ⟨exec_next_of_free (op := .aslx) hb rfl ?aslx, exec_next_of_free (op := .asrx) hb rfl ?asrx,
    exec_next_of_free (op := .lslx) hb rfl ?lslx, exec_next_of_free (op := .lsrx) hb rfl ?lsrx⟩
  case aslx =>
    simp only [left, ovf, ← shiftLeft_eq_ofNat, ← leftOverflow_eq _ _ (by decide : 1 ≤ 16),
      ← unnorm_eq _ (by decide : 2 ≤ 16), ← hn]
    rfl
  case asrx =>
    simp only [arith, ← sshiftRight_eq_ofInt, ← unnorm_eq _ (by decide : 2 ≤ 16), ← hn]
    rfl
  case lslx =>
    simp only [left, leftOut, ← shiftLeft_eq_ofNat, ← leftOut_eq,
      ← unnorm_eq _ (by decide : 2 ≤ 16), ← hn, ← hnr]
    rfl
  case lsrx =>
    simp only [right, rightOut, ← ushiftRight_eq_ofNat, ← rightOut_eq,
      ← unnorm_eq _ (by decide : 2 ≤ 16), ← hn, ← hnr]
    rfl

end Sys2Proof.Machine

/-! The compares, tests and selections (spec/42_b_to_cs2.md and the pages of their kin) and the
operations that move a value as it stands: an instruction that writes flags alone is one rule
(`exec_flagsOnly`), and the flags of a compare are those of the difference it does not write. -/

namespace Sys2Proof.Machine

/-! ### Pairs of halves and flags alone -/

/-- The flags of two halves as the rule words them: those of the real half with U of both, and Z and N
of the imaginary one in V and C (R296, R498). -/
theorem flagsHalves_eq (r i : Half) :
    flagsHalves r i = { resultFlags r (some (decide (i = 0))) (some (i.getMsbD 0)) with
      u := some (notNormal r && notNormal i) } :=
  flagsPair_eq r i _ _

/-- The two halves of a `long` result, the low one in the register that names the pair (R21). -/
theorem write32_append (n : RegNo) (h l : Half) : write32 n (h ++ l) = [(n, l), (n + 1, h)] := by
  simp [write32]

/-- Two halves selected alike are the selected pair (R268). -/
theorem append_ite (g : Bool) (h l h' l' : Half) :
    (if g then h else h') ++ (if g then l else l') = if g then h ++ l else h' ++ l' := by
  cases g <;> rfl

section Run

variable {i : Instr} {op : Op} {f : Form} {s : State} {ex : Effect}

/-- An instruction that writes only flags. -/
theorem exec_flagsOnly {fl computed : FlagUpd} (hb : beside s f = .next ex)
    (hp : partsOf i = some (op, f)) (halu : aluOf op s f.binding = flagsOnly computed)
    (hfl : computed = fl) (hfree : combinesFreely op = true := by rfl) :
    exec i s = .next (after s f { flags := [fl] } ex) :=
  exec_next_of_free hb hp (halu.trans (congrArg flagsOnly hfl)) hfree

/-- An instruction that writes two halves with the flags of both. -/
theorem exec_halves {real imag : Half} (hb : beside s f = .next ex) (hp : partsOf i = some (op, f))
    (halu : aluOf op s f.binding
      = .next { regs := write32 f.binding.dst (real ++ imag), flags := [flagsHalves real imag] })
    (hfree : combinesFreely op = true := by rfl) :
    exec i s = .next (after s f
      { regs := write32 f.binding.dst (real ++ imag)
        flags := [{ resultFlags real (some (decide (imag = 0))) (some (imag.getMsbD 0)) with
          u := some (notNormal real && notNormal imag) }] } ex) :=
  exec_next_of_free hb hp (by rw [halu, flagsHalves_eq]) hfree

end Run

/-- Settles O9: clears and transits are their write alone, the widening operations a result or two
halves written as they stand. -/
theorem clearsAndWidening : Obligations.ClearsAndWidening := by
  intro f s ex hb b a plain long halves
  exact ⟨exec_next_of_free (op := .clr) hb rfl rfl, exec_next_of_free (op := .clrl) hb rfl rfl,
    exec_next_of_free (op := .tr) hb rfl rfl, exec_next_of_free (op := .trl) hb rfl rfl,
    exec_bits32 hb rfl rfl, exec_bits32 hb rfl rfl, exec_halves hb rfl rfl, exec_halves hb rfl rfl⟩

/-! ### The flags of a difference -/

/-- The flags of an exact difference at its width: those of the difference of the bits (R267). -/
theorem flagsVC_difference {n : Nat} (d a : BitVec n) (c : Option Bool) (h : 2 ≤ n) :
    flagsVC (BitVec.ofInt n (d.toInt - a.toInt)) (some (overflows n (d.toInt - a.toInt))) c
      = resultFlags (d - a) (some (lost (d.toInt - a.toInt) (d - a))) c := by
  rw [flagsVC_eq _ _ _ h, overflows_eq n _ (by omega), ofInt_sub_toInt]

/-- C of a difference says that no borrow occurs (R44). -/
theorem subCarry_eq_decide {n : Nat} (b a : BitVec n) :
    subCarry b a true = decide (a.toNat ≤ b.toNat) := by
  have ha := a.isLt
  rw [subCarry, addCarry, BitVec.toNat_not, Bool.toNat_true, decide_eq_decide]
  omega

/-- A magnitude fits its width without a sign (R270). -/
theorem toNat_ofNat_magnitude {n : Nat} (x : BitVec n) :
    (BitVec.ofNat n (magnitude x)).toNat = magnitude x := by
  have hlow : -2 ^ n ≤ 2 * x.toInt := BitVec.le_two_mul_toInt
  have hhigh : 2 * x.toInt < 2 ^ n := BitVec.two_mul_toInt_lt
  have hpow : ((2 ^ n : Nat) : Int) = 2 ^ n := by norm_cast
  have hpos : 0 < 2 ^ n := Nat.two_pow_pos n
  rw [BitVec.toNat_ofNat, Nat.mod_eq_of_lt]
  unfold magnitude
  omega

/-- The difference of two magnitudes at their width. -/
theorem ofNat_magnitude_sub {n : Nat} (d a : BitVec n) :
    BitVec.ofNat n (magnitude d) - BitVec.ofNat n (magnitude a)
      = BitVec.ofInt n (|d.toInt| - |a.toInt|) := by
  rw [← Int.natCast_natAbs, ← Int.natCast_natAbs, sub_eq_add_neg (G := Int), BitVec.ofInt_add,
    BitVec.ofInt_neg, BitVec.ofInt_natCast, BitVec.ofInt_natCast, ← BitVec.sub_eq_add_neg]
  rfl

/-- C of a magnitude compare says that the first magnitude is not the greater one (R270). -/
theorem subCarry_magnitude {n : Nat} (d a : BitVec n) :
    subCarry (BitVec.ofNat n (magnitude d)) (BitVec.ofNat n (magnitude a)) true
      = decide (|a.toInt| ≤ |d.toInt|) := by
  rw [subCarry_eq_decide, toNat_ofNat_magnitude, toNat_ofNat_magnitude, decide_eq_decide,
    ← Int.natCast_natAbs, ← Int.natCast_natAbs, Int.ofNat_le]
  rfl

/-- The flags of a magnitude compare as the rule words them (R270). -/
theorem flagsVC_magnitudes {n : Nat} (d a : BitVec n) (h : 2 ≤ n) :
    let md := BitVec.ofNat n (magnitude d)
    let ma := BitVec.ofNat n (magnitude a)
    flagsVC (md - ma) none (some (subCarry md ma true))
      = resultFlags (BitVec.ofInt n (|d.toInt| - |a.toInt|)) none
          (some (decide (|a.toInt| ≤ |d.toInt|))) := by
  intro md ma
  rw [flagsVC_eq _ _ _ h, ofNat_magnitude_sub, subCarry_magnitude]

/-- Settles O10: each compare is the flags of one difference, of the operands or of their magnitudes. -/
theorem compares : Obligations.Compares := by
  intro f s ex hb b a d al dl done
  simp only [← addCarry_eq]
  exact ⟨exec_flagsOnly hb rfl rfl (flagsVC_difference d a _ (by decide)),
    exec_flagsOnly hb rfl rfl (flagsVC_difference dl al _ (by decide)),
    exec_flagsOnly hb rfl rfl (flagsVC_magnitudes d a (by decide)),
    exec_flagsOnly hb rfl rfl (flagsVC_magnitudes dl al (by decide))⟩

/-! ### Tests -/

/-- U, N and Z of a result as the rules word them. -/
theorem flagsUNZ_eq {n : Nat} (r : BitVec n) (h : 2 ≤ n) :
    flagsUNZ r = resultFlags r none none :=
  flagsVC_eq r none none h

/-- N, Z and V of a float as the rules word them (R332). -/
theorem flagsFloat_eq (d : Long) :
    flagsFloat d = { n := some (d.getMsbD 0)
                     z := some (decide (d.extractLsb' 0 31 = 0))
                     v := some (decide (d.extractLsb' 23 8 = 0xFF)) } := rfl

/-- The bit number of BTST: four bits (R263). -/
theorem bitNumber4 (v : Half) : (v.extractLsb' 0 4).toNat = v.toNat % 16 := by
  rw [BitVec.extractLsb'_toNat]
  rfl

/-- The bit number of BTSTL: the operand itself up to 31, four bits of it above (R264). -/
theorem bitNumber5 (v : Half) :
    (if v.toNat ≤ 31 then (v.extractLsb' 0 5).toNat else (v.extractLsb' 0 4).toNat)
      = if v.toNat ≤ 31 then v.toNat else v.toNat % 16 := by
  rw [bitNumber4]
  split
  · rw [BitVec.extractLsb'_toNat, Nat.shiftRight_zero, Nat.mod_eq_of_lt (by omega)]
  · rfl

/-- Settles O11: the tests are the flags of their operand, or one bit of it, alone. -/
theorem testsOfOperands : Obligations.TestsOfOperands := by
  intro f s ex hb b a al r i bit done
  refine ⟨exec_flagsOnly hb rfl rfl (flagsUNZ_eq a (by decide)),
    exec_flagsOnly hb rfl rfl (flagsUNZ_eq al (by decide)),
    exec_flagsOnly hb rfl rfl (flagsHalves_eq r i), exec_flagsOnly hb rfl rfl (flagsFloat_eq al),
    exec_flagsOnly hb rfl rfl ?btst, exec_flagsOnly hb rfl rfl ?btstl⟩
  case btst => rw [bitNumber4]
  case btstl => rw [bitNumber5]

/-! ### Selections with a record -/

/-- A bit that is joined below the others is a left shift by one (R272). -/
theorem shiftIn_eq {w : Nat} (x : BitVec (w + 1)) (b : Bool) :
    x.extractLsb' 0 w ++ BitVec.ofBool b = x <<< 1 ||| (BitVec.ofBool b).setWidth (w + 1) := by
  ext i hi
  cases i with
  | zero => simp [BitVec.getElem_append]
  | succ k => simp [BitVec.getElem_append, BitVec.getLsbD_eq_getElem (show k < w + 1 by omega)]

/-- Settles O12: CMPE writes its pair half by half, and CS2 the selected halves; each selection bit is
joined below the record. -/
theorem selectionWithRecord : Obligations.SelectionWithRecord := by
  intro f s ex hb b a c greater h1 l1 h2 l2 low1 low2
  refine ⟨exec_next_of_free (op := .cmpe) hb rfl ?cmpe, exec_next_of_free (op := .cs2) hb rfl ?cs2⟩
  case cmpe =>
    rw [← write32_append, append_ite]
    rfl
  case cs2 =>
    rw [← write32_append, ← shiftIn_eq (w := 31), ← shiftIn_eq (w := 31)]
    simp only [low1, low2, not_le]
    rfl

end Sys2Proof.Machine

/-! Program flow (spec/42_b_to_cs2.md R260 to R262, spec/43_cvef_to_eorl.md R298 to R300): what a
program-flow instruction answers outside a delay slot, and what the stacks give back of what was pushed
on them, at every value of the stack pointers. -/

namespace Sys2Proof.Machine

/-! ### Program flow outside a delay slot -/

section Flow

variable {s u : State} {b : Bool} {len x : Half}

/-- Program flow outside a delay slot goes as its condition says. -/
theorem flow_of_delay_none {ctl : Ctl} (hd : s.delay = none) :
    flow s b len ctl u = .next (if b then advance len ctl u else advance len .fallthrough s) :=
  (flow_next ..).2 ⟨hd, rfl⟩

/-- Program flow that transfers control, with its own writes in `u`. -/
theorem flow_goto (hd : s.delay = none) (hu : u.delay = s.delay) :
    flow s b len (.goto x) u
      = .next (if b then { u with pc := x, draws := u.draws + 1 }
          else advance len .fallthrough s) := by
  rw [flow_of_delay_none hd, advance_goto len x u (hu.trans hd)]

/-- Program flow that leaves its target to the next instruction, with its own writes in `u`. -/
theorem flow_later (hd : s.delay = none) (hu : u.delay = s.delay) :
    flow s b len (.delayed x) u
      = .next (if b then { u with pc := u.pc + len, delay := some x, draws := u.draws + 1 }
          else advance len .fallthrough s) := by
  rw [flow_of_delay_none hd, advance_later len x u (hu.trans hd)]

end Flow

/-- Settles O41: each branch is program flow to its target, BS with the pushed address. -/
theorem branches : Obligations.Branches := by
  intro cc tg s hd x branch
  exact ⟨flow_goto hd rfl, flow_later hd rfl, flow_goto hd rfl⟩

/-! ### What is pushed comes back (R31, R33, U11) -/

/-- The entry below the next place of a stack is the one written last, also where the stack pointer
wraps. -/
theorem getElem_below_set {α : Type} {m n : Nat} (xs : Vector α m) (p : BitVec n) (v : α)
    (hp : p.toNat < m) (hback : (p + 1 - 1).toNat < m) :
    (xs.set p.toNat v hp)[(p + 1 - 1).toNat]'hback = v := by
  simp

/-- The address pushed last is the top entry. -/
theorem topSS_pushSS (s : State) (v : Half) : (s.pushSS v).topSS = v :=
  getElem_below_set s.ss s.sp v s.sp.isLt _

/-- Leaving a loop that was just entered gives back the loop registers and the stack pointers. -/
theorem leaveLoop_enterLoop (s : State) (len last lc : Half) :
    let u := (s.enterLoop len last lc).dropSS.popLoop
    u.la = s.la ∧ u.lc = s.lc ∧ u.cp = s.cp ∧ u.sp = s.sp :=
  ⟨getElem_below_set s.csl s.cp s.la s.cp.isLt _, getElem_below_set s.csh s.cp s.lc s.cp.isLt _,
    add_sub_cancel_right s.cp 1, add_sub_cancel_right s.sp 1⟩

/-- RTS after an unconditional call. -/
theorem call_then_rts {call : Instr} {s : State} {x : Half} (hd : s.delay = none)
    (hcall : exec call s = flow s true 1 (.goto x) (s.pushSS (s.pc + 1))) :
    ∃ t u, exec call s = .next t ∧ exec (.rts 15) t = .next u ∧ u.pc = s.pc + 1 ∧ u.sp = s.sp :=
  ⟨_, _, hcall.trans (flow_goto hd rfl), flow_goto hd rfl, topSS_pushSS s (s.pc + 1),
    add_sub_cancel_right s.sp 1⟩

/-- The instruction opens an active loop up to `last`, and ENDDO right behind it gives back the loop
registers and the stack pointers. -/
def EnddoRestores (loop : Instr) (s : State) (last : Half) : Prop :=
  ∃ t u, exec loop s = .next t ∧ t.la = last ∧ t.loopActive = true ∧ exec .enddo t = .next u
    ∧ u.la = s.la ∧ u.lc = s.lc ∧ u.cp = s.cp ∧ u.sp = s.sp

section Loop

variable {loop : Instr} {s : State} {len last lc : Half}

/-- ENDDO after an instruction that opens a loop and is not itself the last one of it. -/
theorem loop_then_enddo (hd : s.delay = none) (hlc : (lc.getLsbD 15 || lc.getLsbD 14) = true)
    (hloop : exec loop s = .next (advance len .fallthrough (s.enterLoop len last lc)))
    (hpc : s.pc ≠ last) :
    EnddoRestores loop s last := by
  rw [advance_plain len (s.enterLoop len last lc) hd fun h => hpc h.2] at hloop
  exact ⟨_, _, hloop, rfl, hlc, flow_goto hd rfl, leaveLoop_enterLoop s len last lc⟩

/-- ENDDO after a DO with a count other than 0. -/
theorem doLoop_then_enddo {count : BitVec 14} (hd : s.delay = none) (hcount : count ≠ 0)
    (hloop : exec loop s = doLoop s len count last) (hpc : s.pc ≠ last) :
    EnddoRestores loop s last :=
  have hactive : (0b01#2 ++ count).getLsbD 14 = true := bit_high _ _ le_rfl
  loop_then_enddo hd (by rw [hactive, Bool.or_true])
    (hloop.trans ((doLoop_next ..).2 ⟨hd, hcount, rfl⟩)) hpc

end Loop

/-- Settles O45: a call pushes what RTS drops, and every form of DO and DOFOR what ENDDO pops. -/
theorem nestingRestores : Obligations.NestingRestores := by
  constructor
  · intro tg s hd call hcall
    simp only [List.mem_cons, List.not_mem_nil, or_false] at hcall
    obtain rfl | rfl := hcall
    · exact call_then_rts hd rfl
    · exact call_then_rts hd rfl
  · intro n d last s hd restores
    exact ⟨fun hn => ⟨doLoop_then_enddo hd hn rfl, doLoop_then_enddo hd hn rfl⟩,
      fun hm => ⟨doLoop_then_enddo hd hm rfl, doLoop_then_enddo hd hm rfl⟩,
      loop_then_enddo hd rfl (flow_of_delay_none hd),
      loop_then_enddo hd rfl (flow_of_delay_none hd)⟩

end Sys2Proof.Machine

/-! The hardware loop and the stop (spec/43_cvef_to_eorl.md R298 to R301, spec/49_rts_to_tstx.md R487):
the end of an instruction at LA is one equation per state of the loop counter (`endOfLoop_forever`,
`endOfLoop_again`, `endOfLoop_leave`), the forms of DO are one operation with its count, and ENDDO and
STOP are transfers of control with their own writes. -/

namespace Sys2Proof.Machine

/-! ### The end of an instruction at LA (R301) -/

/-- A loop counter above 1 counts down as a whole: no borrow reaches its two mode bits. -/
theorem countDown_eq (lc : Half) (h : 1 < (lc.extractLsb' 0 14).toNat) :
    lc.extractLsb' 14 2 ++ (lc.extractLsb' 0 14 - 1) = lc - 1 := by
  have hlc : lc.toNat < 2 ^ 16 := lc.isLt
  apply BitVec.eq_of_toNat_eq
  rw [BitVec.toNat_append, ← Nat.shiftLeft_add_eq_or_of_lt (BitVec.isLt _)]
  simp only [BitVec.toNat_sub, BitVec.extractLsb'_toNat, BitVec.ofNat_eq_ofNat, BitVec.toNat_ofNat,
    Nat.shiftRight_eq_div_pow, Nat.shiftLeft_eq] at h ⊢
  omega

section EndOfLoop

variable {s : State} {len : Half}

/-- The end of the last instruction of an active loop (R9). -/
theorem advance_at_la (hd : s.delay = none) (hactive : s.loopActive = true) (hpc : s.pc = s.la) :
    advance len .fallthrough s
      = State.endOfLoop { s with draws := s.draws + 1 } (s.pc + len) := by
  have hend : (s.loopActive && s.pc == s.la) = true := by
    rw [Bool.and_eq_true, beq_iff_eq]
    exact ⟨hactive, hpc⟩
  simp only [advance]
  rw [hd]
  exact if_pos hend

/-- The infinite loop goes back to its top. -/
theorem endOfLoop_forever (next : Half) (h : s.lc.getLsbD 15 = true) :
    s.endOfLoop next = { s with pc := s.topSS } := by
  simp only [State.endOfLoop, if_pos h]

/-- A counted loop with turns left counts down and goes back to its top. -/
theorem endOfLoop_again (next : Half) (h : s.lc.getLsbD 15 = false)
    (hcount : 1 < (s.lc.extractLsb' 0 14).toNat) :
    s.endOfLoop next = { s with pc := s.topSS, lc := s.lc - 1 } := by
  simp only [State.endOfLoop, h, Bool.false_eq_true, if_false, if_pos hcount, countDown_eq s.lc hcount]

/-- A counted loop on its last turn is left. -/
theorem endOfLoop_leave (next : Half) (h : s.lc.getLsbD 15 = false)
    (hcount : (s.lc.extractLsb' 0 14).toNat ≤ 1) :
    s.endOfLoop next = { s.dropSS.popLoop with pc := next } := by
  simp only [State.endOfLoop, h, Bool.false_eq_true, if_false, if_neg (Nat.not_lt.2 hcount)]

end EndOfLoop

/-- NOP does nothing but end (R431). -/
theorem exec_nop (s : State) : exec .nop s = .next (advance 1 .fallthrough s) :=
  congrArg (fun t => Host.Outcome.next (advance 1 .fallthrough t)) (commit_empty s)

/-- Settles O40: off LA or outside a loop the next instruction follows; at LA of an active loop, one
equation per state of the loop counter. -/
theorem loopEnd : Obligations.LoopEnd := by
  intro s len hd next count top last done
  have hactive : last → s.loopActive = true := fun ⟨h, _⟩ => Bool.or_eq_true_iff.2 h
  refine ⟨fun hlast => ?plain, fun hlast h => ?forever, fun hlast h hcount => ?again,
    fun hlast h hcount => ?leave, exec_nop s⟩
  case plain => exact advance_plain len s hd fun ⟨ha, hpc⟩ => hlast ⟨Bool.or_eq_true_iff.1 ha, hpc⟩
  case forever => exact (advance_at_la hd (hactive hlast) hlast.2).trans (endOfLoop_forever _ h)
  case again => exact (advance_at_la hd (hactive hlast) hlast.2).trans (endOfLoop_again _ h hcount)
  case leave => exact (advance_at_la hd (hactive hlast) hlast.2).trans (endOfLoop_leave _ h hcount)

/-! ### Opening and leaving a loop, STOP (R298 to R300, R487) -/

/-- A DO with a count other than 0 enters its loop. -/
theorem doLoop_enters {s : State} {count : BitVec 14} (len last : Half) (hd : s.delay = none)
    (hcount : count ≠ 0) :
    doLoop s len count last
      = .next (advance len .fallthrough (s.enterLoop len last (0b01#2 ++ count))) :=
  (doLoop_next ..).2 ⟨hd, hcount, rfl⟩

/-- A DO with a count of 0 is refused (U13). -/
theorem doLoop_zero {s : State} {count : BitVec 14} (len last : Half) (hd : s.delay = none)
    (hcount : count = 0) : doLoop s len count last = .refused .loopCountZero := by
  simp only [doLoop, hd, if_pos hcount]

/-- Settles O43: the four forms of DO are one operation with its count, DOFOR is program flow into the
loop without an end. -/
theorem loopsOpen : Obligations.LoopsOpen := by
  intro n d last s hd m entered
  exact ⟨fun hn => ⟨doLoop_enters 2 last hd hn, doLoop_enters 2 _ hd hn⟩,
    fun hm => ⟨doLoop_enters 1 last hd hm, doLoop_enters 1 _ hd hm⟩,
    flow_of_delay_none hd, flow_of_delay_none hd,
    fun hn => ⟨doLoop_zero 2 last hd hn, doLoop_zero 2 _ hd hn⟩,
    fun hm => ⟨doLoop_zero 1 last hd hm, doLoop_zero 1 _ hd hm⟩⟩

/-- The length of the instruction at LA, where program memory has its word (R132). -/
theorem lastLength_inside {s : State} (h : s.la.toNat < s.launch.pramWords) :
    s.lastLength = lengthOf s.launch (s.fetch s.la) :=
  if_pos (decide_eq_true h)

/-- Outside program memory the length at LA is one of the two there are (log 31). -/
theorem lastLength_outside {s : State} (h : s.launch.pramWords ≤ s.la.toNat) :
    s.lastLength ∈ [1#16, 2#16] := by
  have hout : ¬ s.inProgram s.la = true := by
    rw [State.inProgram, decide_eq_true_eq]
    exact Nat.not_lt.2 h
  rw [State.lastLength, if_neg hout]
  exact resolve_mem _ _ _ (List.cons_ne_nil _ _)

/-- Settles O44: ENDDO goes behind the word at LA, with the length that word or the free choice gives;
STOP goes to the address behind it with its two bits of DCSR. -/
theorem enddoAndStop : Obligations.EnddoAndStop := by
  intro s hd left stopped
  have hleft : exec .enddo s = left s.lastLength := flow_goto hd rfl
  refine ⟨fun hin => ?_, fun hout => ⟨s.lastLength, lastLength_outside hout, hleft⟩, ?_⟩
  · rw [hleft, lastLength_inside hin]
  · exact flow_goto hd rfl

end Sys2Proof.Machine

/-! The float format and its rounding (spec/43_cvef_to_eorl.md R292, R293, R304, spec/44_fadd_to_ftst.md
R320): a rounding step finds the nearest multiple of a step, the even one of two equally near
(`NearestMultiple`), and since the finite numbers from a binade on are multiples of its step, a number
that is so rounded is the nearest of all (`IsRounded.isNearest`); `roundFloat` gives such a number. -/

namespace Sys2Proof.Machine

/-! ### The nearest multiple, the even one of two equally near (R292) -/

/-- `q * u` is the multiple of `u` nearest to `x`, `q` the even one of two equally near. -/
def NearestMultiple (x u q : Nat) : Prop :=
  2 * |(q * u : Int) - x| ≤ u ∧ (2 * |(q * u : Int) - x| = u → q % 2 = 0)

namespace NearestMultiple

variable {x y u v q : Nat}

/-- A multiple itself. -/
theorem of_mul (q : Nat) (hu : 0 < u) : NearestMultiple (q * u) u q := by
  simp only [NearestMultiple, Nat.cast_mul, sub_self, abs_zero, mul_zero]
  omega

/-- The quotient is what counts: `x / u = y / v`. -/
theorem of_ratio (h : NearestMultiple x u q) (hu : 0 < u) (hv : 0 < v) (hxy : x * v = y * u) :
    NearestMultiple y v q := by
  have hu' : (0 : Int) < u := by exact_mod_cast hu
  have hxy' : (x * v : Int) = y * u := by exact_mod_cast hxy
  have hscale : u * (2 * |(q * v : Int) - y|) = v * (2 * |(q * u : Int) - x|) := by
    calc u * (2 * |(q * v : Int) - y|) = 2 * |u * ((q * v : Int) - y)| := by
          rw [abs_mul, abs_of_pos hu']; ring
      _ = 2 * |v * ((q * u : Int) - x)| := by
          congr 2; linear_combination hxy'
      _ = v * (2 * |(q * u : Int) - x|) := by
          rw [abs_mul, abs_of_nonneg (Int.natCast_nonneg v)]; ring
  obtain ⟨hle, htie⟩ := h
  constructor
  · refine le_of_mul_le_mul_left (a := (u : Int)) ?_ hu'
    rw [hscale, mul_comm (u : Int)]
    exact mul_le_mul_of_nonneg_left hle (Int.natCast_nonneg v)
  · intro heq
    rw [heq, mul_comm (u : Int)] at hscale
    exact htie (mul_left_cancel₀ (by exact_mod_cast hv.ne') hscale.symm)

/-- The multiple below, when at most half of `u` is left. -/
theorem of_below {r : Nat} (hr : 2 * r ≤ u) (htie : 2 * r = u → q % 2 = 0) :
    NearestMultiple (q * u + r) u q := by
  have hdist : |(q * u : Int) - (q * u + r : Nat)| = r := by
    push_cast
    rw [sub_add_cancel_left, abs_neg, Nat.abs_cast]
  rw [NearestMultiple, hdist]
  omega

/-- The multiple above, when at least half of `u` is left. -/
theorem of_above {r : Nat} (hlt : r < u) (hr : u ≤ 2 * r) (htie : 2 * r = u → q % 2 = 1) :
    NearestMultiple (q * u + r) u (q + 1) := by
  have hdist : |((q + 1 : Nat) * u : Int) - (q * u + r : Nat)| = u - r := by
    push_cast
    rw [add_mul, one_mul, add_sub_add_left_eq_sub, abs_of_pos (by omega)]
  rw [NearestMultiple, hdist]
  omega

/-- No multiple of `u` is nearer, and an equally near one is the same or `q` is even. -/
theorem le_dist (h : NearestMultiple x u q) (j : Int) :
    |(x : Int) - q * u| ≤ |(x : Int) - j * u|
      ∧ (|(x : Int) - q * u| = |(x : Int) - j * u| → j = q ∨ q % 2 = 0) := by
  obtain ⟨hle, htie⟩ := h
  rw [abs_sub_comm] at hle htie
  by_cases hj : j = q
  · subst hj
    exact ⟨le_rfl, fun _ => .inl rfl⟩
  have hstep : (u : Int) ≤ |(x : Int) - q * u| + |(x : Int) - j * u| := by
    calc (u : Int) = 1 * u := (one_mul _).symm
      _ ≤ |j - q| * u := mul_le_mul_of_nonneg_right (Int.one_le_abs (sub_ne_zero.2 hj)) (by omega)
      _ = |((x : Int) - q * u) - (x - j * u)| := by
          rw [← abs_of_nonneg (Int.natCast_nonneg u), ← abs_mul, abs_of_nonneg (Int.natCast_nonneg u)]
          congr 1; ring
      _ ≤ _ := abs_sub _ _
  exact ⟨by omega, fun heq => .inr (htie (by omega))⟩

/-- A value below some multiple that is not above `x` is farther away. -/
theorem lt_dist {l : Nat} {y : Int} (h : NearestMultiple x u q) (hl : l * u ≤ x) (hy : y < l * u) :
    |(x : Int) - q * u| < |(x : Int) - y| := by
  have hl' : (l * u : Int) ≤ x := by exact_mod_cast hl
  calc |(x : Int) - q * u| ≤ |(x : Int) - l * u| := (h.le_dist l).1
    _ = x - l * u := abs_of_nonneg (by omega)
    _ < x - y := by omega
    _ ≤ |(x : Int) - y| := le_abs_self _

/-- A value not below a multiple does not round below it. -/
theorem ge_of_mul_le {l : Nat} (h : NearestMultiple x u q) (hu : 0 < u) (hl : l * u ≤ x) : l ≤ q := by
  obtain ⟨hle, -⟩ := h
  by_contra hlt
  have hq : ((q + 1) * u : Int) ≤ l * u := mul_le_mul_of_nonneg_right (by omega) (by omega)
  have hl' : (l * u : Int) ≤ x := by exact_mod_cast hl
  have := neg_abs_le ((q * u : Int) - x)
  rw [add_mul, one_mul] at hq
  omega

/-- A value not above a multiple does not round above it. -/
theorem le_of_le_mul {l : Nat} (h : NearestMultiple x u q) (hu : 0 < u) (hl : x ≤ l * u) : q ≤ l := by
  obtain ⟨hle, -⟩ := h
  by_contra hlt
  have hq : ((l + 1) * u : Int) ≤ q * u := mul_le_mul_of_nonneg_right (by omega) (by omega)
  have hl' : (x : Int) ≤ l * u := by exact_mod_cast hl
  have := le_abs_self ((q * u : Int) - x)
  rw [add_mul, one_mul] at hq
  omega

/-- A multiple rounds to itself. -/
theorem eq_of_dvd (h : NearestMultiple x u q) (hu : 0 < u) (hx : u ∣ x) : q * u = x := by
  obtain ⟨j, rfl⟩ := hx
  have hge := h.ge_of_mul_le (l := j) hu (by rw [mul_comm])
  have hle := h.le_of_le_mul (l := j) hu (by rw [mul_comm])
  rw [le_antisymm hle hge, mul_comm]

end NearestMultiple

/-- A right shift by the rounding step of R292. -/
theorem roundShift_nearest (m k : Nat) : NearestMultiple m (2 ^ k) (roundShift m k) := by
  have hlt : m % 2 ^ k < 2 ^ k := Nat.mod_lt _ (Nat.two_pow_pos k)
  have hm : m / 2 ^ k * 2 ^ k + m % 2 ^ k = m := Nat.div_add_mod' m (2 ^ k)
  by_cases hup : 2 ^ k < 2 * (m % 2 ^ k) ∨ (2 * (m % 2 ^ k) = 2 ^ k ∧ m / 2 ^ k % 2 = 1)
  · rw [show roundShift m k = m / 2 ^ k + 1 from if_pos hup]
    have h := NearestMultiple.of_above (q := m / 2 ^ k) hlt (by omega) (by omega)
    rwa [hm] at h
  · rw [show roundShift m k = m / 2 ^ k from if_neg hup]
    have h := NearestMultiple.of_below (q := m / 2 ^ k) (u := 2 ^ k) (r := m % 2 ^ k) (by omega)
      (by omega)
    rwa [hm] at h

/-! ### Numbers of the float format (R304) -/

/-- The sign field is the top bit. -/
theorem signField_eq (x : Long) : x.extractLsb' 31 1 = BitVec.ofBool x.msb := by
  ext i hi
  obtain rfl : i = 0 := by omega
  simp [BitVec.msb_eq_getLsbD_last]

/-- The exponent field as a number is read back as the field. -/
theorem expField_eq_iff (x : Long) {k : Nat} (hk : k < 2 ^ 8) :
    expField x = k ↔ x.extractLsb' 23 8 = BitVec.ofNat 8 k := by
  rw [← BitVec.toNat_inj, BitVec.toNat_ofNat, Nat.mod_eq_of_lt hk]
  rfl

/-- The factor of a sign bit. -/
def signFactor (sign : Bool) : Int := if sign then -1 else 1

theorem signFactor_mul_self (sign : Bool) : signFactor sign * signFactor sign = 1 := by
  cases sign <;> rfl

theorem abs_signFactor (sign : Bool) : |signFactor sign| = 1 := by
  cases sign <;> rfl

/-- A number is its sign and its magnitude. -/
theorem toInt_eq_signFactor_mul {w : Nat} (x : BitVec w) :
    x.toInt = signFactor x.msb * x.toInt.natAbs := by
  have hmsb := BitVec.msb_eq_toInt (x := x)
  cases h : x.msb with
  | true =>
    have hneg : x.toInt < 0 := by simpa [h] using hmsb
    simp only [signFactor, if_true]
    omega
  | false =>
    have hnonneg : ¬ x.toInt < 0 := by simpa [h] using hmsb
    simp only [signFactor, Bool.false_eq_true, if_false]
    omega

/-- Every finite number is an integer below `2 ^ 24` with the step of its binade, which is `2` for the
denormals too. -/
theorem finiteValue_eq (c : Long) :
    ∃ g k : Nat, g < 2 ^ 24 ∧ 1 ≤ k ∧ finiteValue c = signFactor c.msb * (g * 2 ^ k) := by
  have hf : (c.extractLsb' 0 23).toNat < 2 ^ 23 := BitVec.isLt _
  by_cases hexp : c.extractLsb' 23 8 = 0
  · exact ⟨(c.extractLsb' 0 23).toNat, 1, by omega, le_rfl, if_pos hexp⟩
  · refine ⟨2 ^ 23 + (c.extractLsb' 0 23).toNat, (c.extractLsb' 23 8).toNat, by omega, ?_, ?_⟩
    · have : (c.extractLsb' 23 8).toNat ≠ 0 := fun h => hexp (BitVec.eq_of_toNat_eq h)
      omega
    · rw [finiteValue, if_neg hexp, floatValue, signFactor]
      norm_cast

/-- The finite numbers from a binade on, and all of them for the lowest one, are multiples of its step. -/
theorem step_dvd_finiteValue {c : Long} {k : Nat}
    (h : k = 1 ∨ 2 ^ 23 * 2 ^ k ≤ |finiteValue c|) : (2 ^ k : Int) ∣ finiteValue c := by
  obtain ⟨g, kc, hg, hkc, hc⟩ := finiteValue_eq c
  have hk : k ≤ kc := by
    obtain rfl | hle := h
    · exact hkc
    · rw [hc, abs_mul, abs_signFactor, one_mul, abs_of_nonneg (by positivity)] at hle
      have hlt : 2 ^ 23 * 2 ^ k < 2 ^ 24 * 2 ^ kc :=
        lt_of_le_of_lt (by exact_mod_cast hle) (Nat.mul_lt_mul_of_pos_right hg (Nat.two_pow_pos kc))
      rw [← pow_add, ← pow_add] at hlt
      have := (Nat.pow_lt_pow_iff_right (by decide)).1 hlt
      omega
  rw [hc]
  exact ((pow_dvd_pow 2 hk).mul_left _).mul_left _

/-- A normal number is its fields. -/
theorem floatValue_eq_of_normal {d : Long} (h : isNormalFloat d) : finiteValue d = floatValue d :=
  if_neg h.1

/-! ### Rounding to the nearest number (R320) -/

/-- `d` is the normal number of value `q * 2 ^ k` (times `2 ^ 150`) with a sign, where `q` rounds the
magnitude `x / scale` to multiples of `2 ^ k`, the step of the binade that `x / scale` is in or above, or
the lowest step. -/
structure IsRounded (sign : Bool) (x scale q k : Nat) (d : Long) : Prop where
  normal : isNormalFloat d
  value : floatValue d = signFactor sign * (q * 2 ^ k)
  even : q % 2 = 0 → d.getLsbD 0 = false
  binade : k = 1 ∨ 2 ^ 23 * 2 ^ k * scale ≤ x
  nearest : NearestMultiple x (2 ^ k * scale) q

/-- The distance of two numbers is that of their multiples by a sign. -/
theorem abs_signFactor_mul_sub (sign : Bool) (x y : Int) :
    |signFactor sign * x - y| = |x - signFactor sign * y| := by
  calc |signFactor sign * x - y| = |signFactor sign * (x - signFactor sign * y)| := by
        rw [mul_sub, ← mul_assoc, signFactor_mul_self, one_mul]
    _ = |x - signFactor sign * y| := by rw [abs_mul, abs_signFactor, one_mul]

/-- The distance of a rounded number is that of its multiple of the step. -/
theorem IsRounded.dist_eq {sign : Bool} {x scale q k : Nat} {d : Long}
    (h : IsRounded sign x scale q k d) :
    |signFactor sign * x - finiteValue d * scale| = |(x : Int) - q * (2 ^ k * scale : Nat)| := by
  rw [floatValue_eq_of_normal h.normal, h.value, abs_signFactor_mul_sub, ← mul_assoc, ← mul_assoc,
    signFactor_mul_self, one_mul]
  push_cast
  rw [mul_assoc]

/-- A number below a binade stays below it under a sign and a scale. -/
theorem signFactor_mul_scaled_lt {sign : Bool} {v b : Int} {scale : Nat} (hscale : 0 < scale)
    (hv : |v| < b) : signFactor sign * (v * scale) < b * scale := by
  calc signFactor sign * (v * scale) ≤ |signFactor sign * (v * scale)| := le_abs_self _
    _ = |v| * scale := by rw [abs_mul, abs_signFactor, one_mul, abs_mul, Nat.abs_cast]
    _ < b * scale := mul_lt_mul_of_pos_right hv (by exact_mod_cast hscale)

/-- A rounded number is the nearest one: a finite number is a multiple of the step, and then the
rounding decides, or it lies below the binade and is farther away than the least multiple there. -/
theorem IsRounded.isNearest {sign : Bool} {x scale q k : Nat} {d : Long} (hscale : 0 < scale)
    (h : IsRounded sign x scale q k d) : isNearest (signFactor sign * x) scale d := by
  refine ⟨h.normal, fun c _ => ?_⟩
  simp only [h.dist_eq, abs_signFactor_mul_sub sign x (finiteValue c * scale)]
  by_cases hgrid : k = 1 ∨ 2 ^ 23 * 2 ^ k ≤ |finiteValue c|
  case pos =>
    obtain ⟨j, hj⟩ := step_dvd_finiteValue hgrid
    have hother : (x : Int) - signFactor sign * (finiteValue c * scale)
        = x - (signFactor sign * j) * (2 ^ k * scale : Nat) := by
      rw [hj]; push_cast; ring
    obtain ⟨hle, htie⟩ := h.nearest.le_dist (signFactor sign * j)
    rw [hother]
    refine ⟨hle, fun heq => (htie heq).imp (fun hjq => ?_) h.even⟩
    rw [floatValue_eq_of_normal h.normal, h.value, hj, ← hjq, mul_assoc, ← mul_assoc,
      signFactor_mul_self]
    ring
  case neg =>
    obtain ⟨hk, hlow⟩ := not_or.1 hgrid
    have hx : 2 ^ 23 * (2 ^ k * scale) ≤ x := by
      rw [← mul_assoc]
      exact h.binade.resolve_left hk
    have hc : signFactor sign * (finiteValue c * scale) < (2 ^ 23 : Nat) * (2 ^ k * scale : Nat) := by
      calc signFactor sign * (finiteValue c * scale) < 2 ^ 23 * 2 ^ k * scale :=
            signFactor_mul_scaled_lt hscale (not_le.1 hlow)
        _ = (2 ^ 23 : Nat) * (2 ^ k * scale : Nat) := by push_cast; ring
    have hfar := h.nearest.lt_dist hx hc
    exact ⟨hfar.le, fun heq => absurd heq hfar.ne⟩

/-! ### The fields of a packed number -/

section Pack

variable (sign : Bool) (e : Nat) (f : BitVec 23)

theorem packFloat_msb : (packFloat sign e f).msb = sign := by
  rw [packFloat, BitVec.msb_eq_getLsbD_last, bit_high _ _ (by decide), bit_high _ _ (by decide)]
  exact bit_ofBool sign

theorem packFloat_exponent : (packFloat sign e f).extractLsb' 23 8 = BitVec.ofNat 8 e := by
  simp [packFloat]

theorem packFloat_fraction : (packFloat sign e f).extractLsb' 0 23 = f := by
  simp [packFloat]

theorem packFloat_lowBit : (packFloat sign e f).getLsbD 0 = f.getLsbD 0 := by
  rw [packFloat, bit_low _ _ (by decide)]

variable {e}

theorem packFloat_expField (hle : e ≤ 254) : expField (packFloat sign e f) = e := by
  rw [expField, packFloat_exponent, BitVec.toNat_ofNat, Nat.mod_eq_of_lt (by omega)]

theorem packFloat_normal (hpos : 1 ≤ e) (hle : e ≤ 254) : isNormalFloat (packFloat sign e f) := by
  have he := packFloat_expField sign f hle
  refine ⟨fun h => ?_, fun h => ?_⟩
  · have := (expField_eq_iff _ (k := 0) (by decide)).2 h
    omega
  · have := (expField_eq_iff _ (k := 255) (by decide)).2 h
    omega

theorem packFloat_value (hle : e ≤ 254) :
    floatValue (packFloat sign e f) = signFactor sign * ((2 ^ 23 + f.toNat : Nat) * 2 ^ e) := by
  have he : ((packFloat sign e f).extractLsb' 23 8).toNat = e := packFloat_expField sign f hle
  rw [floatValue, packFloat_msb, packFloat_fraction, he]
  rfl

end Pack

/-- The exponent field of the value `q * 2 ^ k`: one higher where the significand is `2 ^ 24`. -/
def packExp (q k : Nat) : Nat := k + if q = 2 ^ 24 then 1 else 0

theorem le_packExp (q k : Nat) : k ≤ packExp q k := Nat.le_add_right _ _

theorem packExp_le (q k : Nat) : packExp q k ≤ k + 1 := by
  unfold packExp
  split <;> omega

/-- The number of value `q * 2 ^ k` with a sign, for a significand `q` from `2 ^ 23` to `2 ^ 24`. -/
def packSig (sign : Bool) (q k : Nat) : Long :=
  packFloat sign (packExp q k) (if q = 2 ^ 24 then 0 else BitVec.ofNat 23 q)

section PackSig

variable {sign : Bool} {q k : Nat}

theorem packSig_msb : (packSig sign q k).msb = sign := packFloat_msb ..

theorem packSig_value (hlow : 2 ^ 23 ≤ q) (hhigh : q ≤ 2 ^ 24) (hfit : packExp q k ≤ 254) :
    floatValue (packSig sign q k) = signFactor sign * (q * 2 ^ k) := by
  rw [packSig, packFloat_value _ _ hfit, packExp]
  by_cases hq : q = 2 ^ 24
  · rw [if_pos hq, if_pos hq, hq, BitVec.ofNat_eq_ofNat, BitVec.toNat_zero, pow_succ _ k]
    push_cast
    ring
  · have hf : (BitVec.ofNat 23 q).toNat = q - 2 ^ 23 := by
      rw [BitVec.toNat_ofNat]
      omega
    simp only [if_neg hq, hf, Nat.add_sub_cancel' hlow, Nat.add_zero]

theorem packSig_even (h : q % 2 = 0) : (packSig sign q k).getLsbD 0 = false := by
  rw [packSig, packFloat_lowBit]
  split
  · rfl
  · rw [BitVec.getLsbD_ofNat, Nat.testBit_zero, h]
    rfl

end PackSig

/-! ### The rounding of `roundFloat` (R320) -/

/-- The significand of a magnitude, rounded to 24 bits. -/
def normalSig (m : Nat) : Nat :=
  if m.log2 ≤ 23 then m * 2 ^ (23 - m.log2) else roundShift m (m.log2 - 23)

/-- The 24-bit significand rounds the magnitude at the step of its binade. -/
theorem normalSig_nearest (m : Nat) : NearestMultiple (m * 2 ^ 23) (2 ^ m.log2) (normalSig m) := by
  rw [normalSig]
  split
  · next h =>
    have hm : m * 2 ^ 23 = m * 2 ^ (23 - m.log2) * 2 ^ m.log2 := by
      rw [mul_assoc, ← pow_add, Nat.sub_add_cancel h]
    rw [hm]
    exact .of_mul _ (Nat.two_pow_pos _)
  · next h =>
    refine (roundShift_nearest m _).of_ratio (Nat.two_pow_pos _) (Nat.two_pow_pos _) ?_
    rw [mul_assoc, ← pow_add, Nat.add_sub_cancel' (by omega)]

theorem normalSig_bounds {m : Nat} (hm : m ≠ 0) : 2 ^ 23 ≤ normalSig m ∧ normalSig m ≤ 2 ^ 24 := by
  have hlow : 2 ^ m.log2 ≤ m := Nat.log2_self_le hm
  have hhigh : m < 2 ^ (m.log2 + 1) := Nat.lt_log2_self
  rw [pow_succ] at hhigh
  exact ⟨(normalSig_nearest m).ge_of_mul_le (Nat.two_pow_pos _) (by omega),
    (normalSig_nearest m).le_of_le_mul (Nat.two_pow_pos _) (by omega)⟩

section Round

variable {sign : Bool} {m k : Nat} {x : Int}

/-- Outside the binade below the least normal number, `roundFloat` packs its significand where the
exponent field fits. -/
theorem roundFloat_of_normal (h : (m.log2 : Int) + x + 127 ≠ 0) :
    roundFloat sign m x =
      let carry := normalSig m == 2 ^ 24
      let e : Int := m.log2 + x + 127 + (if carry then 1 else 0)
      if 1 ≤ e ∧ e ≤ 254 then
        some (packFloat sign e.toNat (if carry then 0 else BitVec.ofNat 23 (normalSig m)))
      else none :=
  if_neg h

/-- A magnitude whose exponent field fits the format rounds to its packed significand. -/
theorem roundFloat_eq_some (hk : (k : Int) = m.log2 + x + 127) (hpos : 1 ≤ k)
    (hfit : packExp (normalSig m) k ≤ 254) :
    roundFloat sign m x = some (packSig sign (normalSig m) k) := by
  have he : (k : Int) + (if normalSig m = 2 ^ 24 then 1 else 0) = packExp (normalSig m) k := by
    unfold packExp
    split <;> rfl
  have hone : 1 ≤ packExp (normalSig m) k := hpos.trans (le_packExp ..)
  rw [roundFloat_of_normal (by omega), packSig]
  simp only [← hk, beq_iff_eq, he, Int.toNat_natCast]
  exact if_pos ⟨by exact_mod_cast hone, by exact_mod_cast hfit⟩

/-- What packs is the magnitude `m * 2 ^ x`, rounded: at the scale `2 ^ b` it is `m * 2 ^ a`. -/
theorem isRounded_packSig {a b : Nat} (hm : m ≠ 0) (hk : k + b + 23 = a + m.log2) (hpos : 1 ≤ k)
    (hfit : packExp (normalSig m) k ≤ 254) :
    IsRounded sign (m * 2 ^ a) (2 ^ b) (normalSig m) k (packSig sign (normalSig m) k) := by
  obtain ⟨hlow, hhigh⟩ := normalSig_bounds hm
  refine ⟨packFloat_normal _ _ (hpos.trans (le_packExp ..)) hfit, packSig_value hlow hhigh hfit,
    packSig_even, .inr ?_, (normalSig_nearest m).of_ratio (Nat.two_pow_pos _) (by positivity) ?_⟩
  · calc 2 ^ 23 * 2 ^ k * 2 ^ b = 2 ^ m.log2 * 2 ^ a := by
          rw [← pow_add, ← pow_add, ← pow_add]
          congr 1
          omega
      _ ≤ m * 2 ^ a := Nat.mul_le_mul_right _ (Nat.log2_self_le hm)
  · rw [mul_assoc, mul_assoc, ← pow_add, ← pow_add, ← pow_add]
    congr 2
    omega

end Round

end Sys2Proof.Machine

/-! The conversions between the number formats (spec/43_cvef_to_eorl.md R290 to R293): the result of each
in the words of its rule, and of CVIF the number that its rounding gives. -/

namespace Sys2Proof.Machine

/-! ### Float results -/

/-- A float result with its flags as the rules word them (R320). -/
theorem exec_float {i : Instr} {op : Op} {f : Form} {s : State} {ex : Effect} {d : Long}
    (hb : beside s f = .next ex) (hp : partsOf i = some (op, f))
    (halu : aluOf op s f.binding = floatResult f.binding d)
    (hfree : combinesFreely op = true := by rfl) :
    exec i s = .next (after s f
      { regs := write32 f.binding.dst d
        flags := [{ n := some (d.getLsbD 31), z := some (decide (d.extractLsb' 0 31 = 0)),
                    v := some (decide (d.extractLsb' 23 8 = 0xFF)) }] } ex) :=
  exec_next_of_free hb hp halu hfree

/-! ### CVEF (R290) -/

/-- The magnitude of a mantissa: the number or its negative. -/
theorem ofNat_natAbs_toInt {n : Nat} (x : BitVec n) :
    BitVec.ofNat n x.toInt.natAbs = if x.msb then 0 - x else x := by
  rw [← ofInt_abs_toInt, ← Int.natCast_natAbs, BitVec.ofInt_natCast]

/-- The result of CVEF in the words of the rule: first the mark of the special values, then the
thresholds of the exponent, which the mantissa -1.0 shifts by one. -/
theorem cvefResult_eq (m : Long) (x : Half) :
    cvefResult m x =
      let e := x.toInt
      let sign := m.extractLsb' 31 1
      let mag : Long := if m.msb then 0 - m else m
      if e = 0x7FFF then (if m.extractLsb' 0 31 = 0 then sign ++ 0xFF#8 ++ 0#23 else 0x7FFFFFFF)
      else if m = 0 then 0
      else if m = 0x80000000 then
        if e ≤ -127 then 0 else if 128 ≤ e then 0xFF800000 else 1#1 ++ BitVec.ofInt 8 (e + 127) ++ 0#23
      else if e ≤ -126 then 0
      else if 129 ≤ e then sign ++ 0xFF#8 ++ 0#23
      else sign ++ BitVec.ofInt 8 (e + 126) ++ mag.extractLsb' 7 23 := by
  simp only [cvefResult, ofNat_natAbs_toInt, signField_eq, BitVec.ofNat_eq_ofNat]
  by_cases hspecial : x.toInt = 0x7FFF
  · simp only [hspecial, true_and, if_true]
    rfl
  by_cases hzero : m = 0#32
  · simp only [hspecial, hzero, false_and, if_false, if_true]
  by_cases hmin : m = 0x80000000#32
  · subst hmin
    simp only [hspecial, hzero, false_and, if_false, ne_eq, not_true, and_false, and_true, if_true]
    rfl
  · simp only [hspecial, hzero, hmin, false_and, if_false, ne_eq, not_false_eq_true, and_true,
      and_false]
    rfl

/-- Settles O24: CVEF is a float result, the one of the rule. -/
theorem extendedToFloat : Obligations.ExtendedToFloat := by
  intro f s ex hb b m e sign mag d
  exact exec_float (op := .cvef) hb rfl (congrArg (floatResult b) (cvefResult_eq m (b.snd16 s)))

/-! ### CVFE (R291) -/

/-- A negative mantissa of 25 bits, padded with zeros below. -/
theorem neg_append_zero (m : BitVec 25) : -m ++ 0#7 = 0 - (m ++ 0#7) := by
  apply BitVec.eq_of_toNat_eq
  have hm := m.isLt
  simp only [BitVec.toNat_append, BitVec.toNat_neg, BitVec.toNat_sub, BitVec.toNat_ofNat,
    Nat.or_zero, Nat.shiftLeft_eq, BitVec.ofNat_eq_ofNat, Nat.zero_mod]
  omega

/-- The exponent and the mantissa of CVFE in the words of the rule. -/
theorem cvfeResult_eq (x : Long) :
    cvfeResult x =
      let e := x.extractLsb' 23 8
      let fr := x.extractLsb' 0 23
      (if e = 0 then 0 else if e = 0xFF then 0x7FFF else BitVec.ofInt 16 ((e.toNat : Int) - 126),
        if e = 0 then 0
        else if e = 0xFF then (if fr = 0 then x.extractLsb' 31 1 ++ 0#31 else 0x7FFFFFFF)
        else if x.msb then 0 - (1#2 ++ fr ++ 0#7) else 1#2 ++ fr ++ 0#7) := by
  have hzero := expField_eq_iff x (k := 0) (by decide)
  have hspecial := expField_eq_iff x (k := 255) (by decide)
  simp only [cvfeResult, hzero, hspecial, signField_eq, BitVec.ofNat_eq_ofNat]
  by_cases h0 : x.extractLsb' 23 8 = 0#8
  · simp only [h0, if_true]
  by_cases h255 : x.extractLsb' 23 8 = 255#8
  · by_cases hfrac : x.extractLsb' 0 23 = 0#23
    · have hf : fracField x = 0#23 := hfrac
      simp [h255, hf, hfrac]
    · have hf : fracField x ≠ 0#23 := hfrac
      simp [h255, hf, hfrac]
  · simp only [h0, h255, false_and, if_false]
    cases x.msb with
    | true => exact congrArg (Prod.mk _) (neg_append_zero _)
    | false => rfl

/-- What CVFE writes, by its two results: the mantissa to D, the exponent behind it or to `s2`. -/
theorem aluCvfe_eq {s : State} {b : Binding} {exp : Half} {man : Long}
    (h : cvfeResult (b.fst32 s) = (exp, man)) :
    aluCvfe s b = .next
      { regs := if s.dd then write32 b.dst man ++ [(b.dst + 2, exp)]
                else (b.snd, exp) :: write32 b.dst man
        flags := [resultFlags man (some (Config.freeBit s.draws 1))
          (some (Config.freeBit s.draws 0))] } := by
  rw [aluCvfe, h, flagsVC_eq man _ _ (by decide)]
  rfl

/-- Settles O25: CVFE is its two results and the flags of the mantissa, the destinations by DD. -/
theorem floatToExtended : Obligations.FloatToExtended := by
  intro f s ex hb hstop b x e fr exp man flags
  have halu := aluCvfe_eq (s := s) (b := b) (cvfeResult_eq x)
  refine ⟨fun hdd => ?_, fun hdd => ?_⟩
  · rw [hdd] at halu
    exact exec_next hb rfl halu hstop
  · rw [hdd] at halu
    exact exec_next hb rfl halu hstop

/-! ### CVFI (R292) -/

/-- An integer limited to 32 bits, from its sign and magnitude, and whether it was limited. -/
theorem limited_eq (neg : Bool) (mag : Nat) :
    (if neg then
        if 2 ^ 31 < mag then (0x80000000#32, true) else (BitVec.ofInt 32 (-(mag : Int)), false)
      else if 2 ^ 31 - 1 < mag then (0x7FFFFFFF#32, true) else (BitVec.ofNat 32 mag, false))
      = let val : Int := if neg then -mag else mag
        if val > 2 ^ 31 - 1 then (0x7FFFFFFF, true)
        else if val < -2 ^ 31 then (0x80000000, true)
        else (BitVec.ofInt 32 val, false) := by
  cases neg with
  | true =>
    have hhigh : ¬ -(mag : Int) > 2 ^ 31 - 1 := by omega
    have hlow : -(mag : Int) < -2 ^ 31 ↔ 2 ^ 31 < mag := by omega
    simp only [if_true, hhigh, hlow, if_false]
    rfl
  | false =>
    have hhigh : (mag : Int) > 2 ^ 31 - 1 ↔ 2 ^ 31 - 1 < mag := by omega
    have hlow : ¬ (mag : Int) < -2 ^ 31 := by omega
    simp only [Bool.false_eq_true, if_false, hhigh, hlow, BitVec.ofInt_natCast]
    rfl

/-- The result of CVFI in the words of the rule: the rounded value with its sign, limited. -/
theorem cvfiResult_eq (x : Long) :
    cvfiResult x =
      let e := (x.extractLsb' 23 8).toNat
      let sig := 2 ^ 23 + (x.extractLsb' 0 23).toNat
      let mag := if 150 ≤ e then sig * 2 ^ (e - 150) else roundShift sig (150 - e)
      let val : Int := if x.msb then -mag else mag
      if e = 0 then (0, false)
      else if e = 255 ∧ x.extractLsb' 0 23 ≠ 0 then (0, true)
      else if val > 2 ^ 31 - 1 then (0x7FFFFFFF, true)
      else if val < -2 ^ 31 then (0x80000000, true)
      else (BitVec.ofInt 32 val, false) :=
  congrArg (fun r => if expField x = 0 then (0, false)
    else if expField x = 255 ∧ fracField x ≠ 0 then (0, true) else r) (limited_eq x.msb _)

/-! ### CVIF (R293) -/

/-- The magnitude of a 32-bit integer is far below the largest float. -/
theorem cvif_fits (x : Long) :
    packExp (normalSig x.toInt.natAbs) (x.toInt.natAbs.log2 + 127) ≤ 254 := by
  have hlog : x.toInt.natAbs.log2 < 32 := by
    have hrange : -2 ^ 31 ≤ x.toInt ∧ x.toInt < 2 ^ 31 := ⟨BitVec.le_toInt x, BitVec.toInt_lt⟩
    by_cases h0 : x.toInt.natAbs = 0
    · rw [h0]; decide
    · exact (Nat.log2_lt h0).2 (by omega)
  have := packExp_le (normalSig x.toInt.natAbs) (x.toInt.natAbs.log2 + 127)
  omega

theorem natAbs_toInt_ne_zero {w : Nat} {x : BitVec w} (hx : x ≠ 0) : x.toInt.natAbs ≠ 0 :=
  Int.natAbs_ne_zero.2 fun h => hx (BitVec.toInt_inj.1 (h.trans BitVec.toInt_zero.symm))

/-- CVIF packs the rounded magnitude of the integer. -/
theorem cvifResult_eq {x : Long} (hx : x ≠ 0) :
    cvifResult x = packSig x.msb (normalSig x.toInt.natAbs) (x.toInt.natAbs.log2 + 127) := by
  rw [cvifResult, if_neg hx, roundFloat_eq_some (by push_cast; ring) (by omega) (cvif_fits x),
    Option.getD_some]

/-- The result of CVIF has the sign of the integer. -/
theorem cvifResult_msb (x : Long) : (cvifResult x).msb = x.msb := by
  by_cases hx : x = 0
  · subst hx
    rfl
  · rw [cvifResult_eq hx, packSig_msb]

/-- The result of CVIF is the integer, rounded. -/
theorem cvifResult_isRounded {x : Long} (hx : x ≠ 0) :
    IsRounded x.msb (x.toInt.natAbs * 2 ^ 150) (2 ^ 0) (normalSig x.toInt.natAbs)
      (x.toInt.natAbs.log2 + 127) (cvifResult x) := by
  rw [cvifResult_eq hx]
  exact isRounded_packSig (natAbs_toInt_ne_zero hx) (by omega) (by omega) (cvif_fits x)

/-- The scaled integer by its sign and magnitude. -/
theorem toInt_mul_eq (x : Long) (n : Nat) :
    x.toInt * 2 ^ n = signFactor x.msb * (x.toInt.natAbs * 2 ^ n : Nat) := by
  rw [Nat.cast_mul, ← mul_assoc, ← toInt_eq_signFactor_mul, Nat.cast_pow]
  rfl

/-- CVIF gives the nearest float. -/
theorem cvifResult_nearest {x : Long} (hx : x ≠ 0) :
    isNearest (x.toInt * 2 ^ 150) 1 (cvifResult x) := by
  rw [toInt_mul_eq]
  exact (cvifResult_isRounded hx).isNearest (Nat.two_pow_pos 0)

/-- Up to `2 ^ 24` the scaled magnitude is a multiple of the step, the power itself included. -/
theorem step_dvd_of_le {m : Nat} (hm : m ≠ 0) (hle : m ≤ 2 ^ 24) :
    2 ^ (m.log2 + 127) ∣ m * 2 ^ 150 := by
  obtain hlt | rfl := Nat.lt_or_eq_of_le hle
  · have hlog : m.log2 < 24 := (Nat.log2_lt hm).2 hlt
    exact (pow_dvd_pow 2 (by omega)).mul_left _
  · rw [Nat.log2_two_pow, ← pow_add]
    exact pow_dvd_pow 2 (by decide)

/-- CVIF is exact for a magnitude up to `2 ^ 24`. -/
theorem cvifResult_exact {x : Long} (hx : x ≠ 0) (hle : x.toInt.natAbs ≤ 2 ^ 24) :
    floatValue (cvifResult x) = x.toInt * 2 ^ 150 := by
  have hr := cvifResult_isRounded hx
  have hexact := hr.nearest.eq_of_dvd (by positivity)
    (by simpa using step_dvd_of_le (natAbs_toInt_ne_zero hx) hle)
  rw [pow_zero, mul_one] at hexact
  rw [hr.value, toInt_mul_eq, ← hexact]
  push_cast
  rfl

/-- Settles O26: CVFI is the limited rounded value, CVIF the rounded magnitude with its sign. -/
theorem integerConversions : Obligations.IntegerConversions := by
  intro f s ex hb b x e sig mag val int
  have hint : cvfiResult x = int := cvfiResult_eq x
  rw [← hint]
  refine ⟨exec_bits32 hb rfl rfl, cvifResult x, fun hx => ?_, cvifResult_msb x,
    fun hx => ⟨cvifResult_nearest hx, cvifResult_exact hx⟩,
    exec_next_of_free (op := .cvif) hb rfl rfl⟩
  rw [hx]
  rfl

end Sys2Proof.Machine

/-! The float arithmetic (spec/44_fadd_to_ftst.md R320 to R322, R327, R328): the results of FADD, FSUB,
FMPY and FAS are those of `fop32`, and `fop32` rounds (`RoundsTo`) because its significands are exact
integers that `roundFloat` rounds once; what rounds is exact where a normal number has the value. -/

namespace Sys2Proof.Machine

/-! ### FADD, FSUB, FMPY, FAS (R321, R322, R327, R328) -/

/-- FAS by its destinations: the sum and the difference of `fop32` to the registers `regs`. -/
theorem exec_fas {f : Form} {s : State} {ex : Effect} {regs : List (RegNo × Half)}
    (hb : beside s f = .next ex) :
    let b := f.binding
    let sum := fop32 .add (b.fst32 s) (b.snd32 s)
    let dif := fop32 .sub (b.snd32 s) (b.fst32 s)
    (if s.dd then write64 b.dst (sum ++ dif) else writeTwo32 s b.dst sum b.snd dif) = regs →
    exec (.fas f) s = .next (after s f { regs := regs, flags := [flagsFloat sum] } ex) := by
  rintro b sum dif rfl
  exact exec_next_of_free (op := .fas) hb rfl rfl

/-- Settles O22: the operations are float results; FAS has its destinations by DD and by whether they
differ. -/
theorem floatArithmetic : Obligations.FloatArithmetic := by
  intro f s ex hb b a c done sum dif prod
  refine ⟨exec_float (op := .fadd) hb rfl rfl, exec_float (op := .fsub) hb rfl rfl,
    exec_float (op := .fmpy) hb rfl rfl, fun hdd => exec_fas hb (if_pos hdd), fun hdd hne => ?_,
    fun hdd heq => ?_⟩
  · exact exec_fas hb ((if_neg (by simp [hdd])).trans (if_neg hne))
  · obtain ⟨v, hv, hwrite⟩ := writeTwo32_same s b.dst sum dif
    exact ⟨v, hv, exec_fas hb ((if_neg (by simp [hdd])).trans (heq ▸ hwrite))⟩

/-! ### The fields of a number (R304) -/

/-- A number is its sign, its exponent field and its fraction. -/
theorem packFloat_fields (x : Long) : packFloat x.msb (expField x) (fracField x) = x := by
  rw [packFloat, ← signField_eq, expField, fracField, BitVec.ofNat_toNat, BitVec.setWidth_eq]
  rw [BitVec.extractLsb'_append_extractLsb'_eq_extractLsb' (by rfl),
    BitVec.extractLsb'_append_extractLsb'_eq_extractLsb' (by rfl)]
  exact BitVec.extractLsb'_eq_self

theorem significand_bounds (x : Long) : 2 ^ 23 ≤ significand x ∧ significand x < 2 ^ 24 := by
  have hf : (fracField x).toNat < 2 ^ 23 := BitVec.isLt _
  unfold significand
  omega

/-- The value of a number by its fields. -/
theorem floatValue_eq (x : Long) :
    floatValue x = signFactor x.msb * (significand x * 2 ^ expField x : Nat) := by
  simp only [significand]
  push_cast
  rfl

/-- A normal number has an exponent field from 1 to 254. -/
theorem isNormalFloat_iff (x : Long) : isNormalFloat x ↔ 1 ≤ expField x ∧ expField x ≤ 254 := by
  have hlt : expField x < 2 ^ 8 := BitVec.isLt _
  have hzero := expField_eq_iff x (k := 0) (by decide)
  have hmax := expField_eq_iff x (k := 255) (by decide)
  exact (and_congr (not_congr hzero.symm) (not_congr hmax.symm)).trans (by omega)

theorem isNormal_of_isNormalFloat {x : Long} (h : isNormalFloat x) : isNormal x = true := by
  simpa [isNormal] using (isNormalFloat_iff x).1 h

/-- Of two significands the scaled one that is not above the other has no higher exponent. -/
theorem exponent_le_of_scaled_le {p q j k : Nat} (hp : 2 ^ 23 ≤ p) (hq : q < 2 ^ 24)
    (h : p * 2 ^ j ≤ q * 2 ^ k) : j ≤ k := by
  have hlt : 2 ^ (23 + j) < 2 ^ (24 + k) := by
    calc 2 ^ (23 + j) = 2 ^ 23 * 2 ^ j := pow_add ..
      _ ≤ p * 2 ^ j := Nat.mul_le_mul_right _ hp
      _ ≤ q * 2 ^ k := h
      _ < 2 ^ 24 * 2 ^ k := Nat.mul_lt_mul_of_pos_right hq (Nat.two_pow_pos k)
      _ = 2 ^ (24 + k) := (pow_add ..).symm
  have := (Nat.pow_lt_pow_iff_right (by decide)).1 hlt
  omega

theorem abs_signFactor_mul (sign : Bool) (n : Nat) : |signFactor sign * n| = n := by
  rw [abs_mul, abs_signFactor, one_mul, Nat.abs_cast]

/-- Signed magnitudes are equal, one of them not 0, only with the same sign. -/
theorem signFactor_mul_inj {s t : Bool} {m n : Nat} (hn : n ≠ 0)
    (h : signFactor s * m = signFactor t * n) : s = t ∧ m = n := by
  have hmag : (m : Int) = n := by rw [← abs_signFactor_mul s m, h, abs_signFactor_mul]
  rw [hmag] at h
  have hfactor := mul_right_cancel₀ (Nat.cast_ne_zero.2 hn) h
  have hsign : s = t := by
    revert hfactor
    cases s <;> cases t <;> decide
  exact ⟨hsign, Int.ofNat_inj.1 hmag⟩

/-- A number is determined by its value. -/
theorem floatValue_injective {x y : Long} (h : floatValue x = floatValue y) : x = y := by
  obtain ⟨hxlow, hxhigh⟩ := significand_bounds x
  obtain ⟨hylow, hyhigh⟩ := significand_bounds y
  rw [floatValue_eq, floatValue_eq] at h
  obtain ⟨hsign, hmag⟩ := signFactor_mul_inj (Nat.mul_ne_zero (by omega) (Nat.two_pow_pos _).ne') h
  have hexp : expField x = expField y := le_antisymm
    (exponent_le_of_scaled_le hxlow hyhigh hmag.le)
    (exponent_le_of_scaled_le hylow hxhigh hmag.ge)
  rw [hexp] at hmag
  have hsig : significand x = significand y := Nat.eq_of_mul_eq_mul_right (Nat.two_pow_pos _) hmag
  have hfrac : fracField x = fracField y := BitVec.eq_of_toNat_eq (Nat.add_left_cancel hsig)
  rw [← packFloat_fields x, ← packFloat_fields y, hsign, hexp, hfrac]

/-! ### The nearest number of `roundFloat` (R320) -/

section RoundFloat

variable {sign : Bool} {m a b : Nat}

/-- In the highest binade a magnitude less than half a step above the greatest number keeps 24 bits. -/
theorem normalSig_ne_of_lt (h : m * 2 ^ 24 < (2 ^ 25 - 1) * 2 ^ m.log2) : normalSig m ≠ 2 ^ 24 := by
  intro hq
  obtain ⟨hle, -⟩ := normalSig_nearest m
  have hdist := le_abs_self ((normalSig m * (2 ^ m.log2 : Nat) : Int) - (m * 2 ^ 23 : Nat))
  rw [hq] at hle hdist
  omega

/-- Below half a step above the greatest number the exponent field fits. -/
theorem packExp_normalSig_le {k : Nat} (hm : m ≠ 0) (hk : k + b + 23 = a + m.log2)
    (hhigh : m * 2 ^ a < (2 ^ 25 - 1) * 2 ^ (253 + b)) : packExp (normalSig m) k ≤ 254 := by
  have hlow : 2 ^ m.log2 ≤ m := Nat.log2_self_le hm
  have hlt : 2 ^ (a + m.log2) < 2 ^ (278 + b) := by
    calc 2 ^ (a + m.log2) = 2 ^ m.log2 * 2 ^ a := by rw [add_comm, pow_add]
      _ ≤ m * 2 ^ a := Nat.mul_le_mul_right _ hlow
      _ < (2 ^ 25 - 1) * 2 ^ (253 + b) := hhigh
      _ ≤ 2 ^ 25 * 2 ^ (253 + b) := Nat.mul_le_mul_right _ (by decide)
      _ = 2 ^ (278 + b) := by rw [← pow_add]; congr 1; omega
  have hk254 : k ≤ 254 := by
    have := (Nat.pow_lt_pow_iff_right (by decide)).1 hlt
    omega
  obtain hk' | rfl := Nat.lt_or_eq_of_le hk254
  · exact (packExp_le ..).trans hk'
  · have hq : normalSig m ≠ 2 ^ 24 := by
      refine normalSig_ne_of_lt (Nat.lt_of_mul_lt_mul_right (a := 2 ^ a) ?_)
      calc m * 2 ^ 24 * 2 ^ a = 2 ^ 24 * (m * 2 ^ a) := by ring
        _ < 2 ^ 24 * ((2 ^ 25 - 1) * 2 ^ (253 + b)) := Nat.mul_lt_mul_of_pos_left hhigh (by decide)
        _ = (2 ^ 25 - 1) * (2 ^ 24 * 2 ^ (253 + b)) := by ring
        _ = (2 ^ 25 - 1) * 2 ^ m.log2 * 2 ^ a := by
          rw [mul_assoc, ← pow_add, ← pow_add]
          congr 2
          omega
    rw [packExp, if_neg hq]

/-- From half a step below `2 ^ 23` steps on a value rounds up to them: the multiple below is odd. -/
theorem roundShift_eq_of_half_below {k : Nat} (hlow : (2 ^ 24 - 1) * 2 ^ k ≤ m)
    (hhigh : m < 2 ^ (24 + k)) : roundShift m (k + 1) = 2 ^ 23 := by
  have hnear := roundShift_nearest m (k + 1)
  have hpos := Nat.two_pow_pos k
  rw [pow_add] at hhigh
  rw [pow_succ] at hnear
  have hge := hnear.ge_of_mul_le (l := 2 ^ 23 - 1) (by omega) (by omega)
  have hle := hnear.le_of_le_mul (l := 2 ^ 23) (by omega) (by omega)
  obtain ⟨hdist, htie⟩ := hnear
  by_contra hne
  have hq : roundShift m (k + 1) = 2 ^ 23 - 1 := by omega
  rw [hq] at hdist htie
  have habs := neg_le_abs (((2 ^ 23 - 1 : Nat) * (2 ^ k * 2 : Nat) : Int) - m)
  exact absurd (htie (by omega)) (by decide)

/-- A magnitude of the binade below the least normal number, at most half a step away from it, rounds to
it. -/
theorem roundShift_below_minNormal (hp : a + m.log2 = b + 23)
    (hlow : (2 ^ 24 - 1) * 2 ^ b ≤ m * 2 ^ a) :
    22 ≤ m.log2 ∧ roundShift m (m.log2 - 22) = 2 ^ 23 := by
  have hm : m + 1 ≤ 2 ^ (m.log2 + 1) := Nat.lt_log2_self
  have hab : 2 ^ a ≤ 2 ^ b := by
    have htop : (m + 1) * 2 ^ a ≤ 2 ^ 24 * 2 ^ b := by
      calc (m + 1) * 2 ^ a ≤ 2 ^ (m.log2 + 1) * 2 ^ a := Nat.mul_le_mul_right _ hm
        _ = 2 ^ 24 * 2 ^ b := by
          rw [← pow_add, ← pow_add]
          congr 1
          omega
    rw [add_mul, one_mul] at htop
    omega
  have hle : a ≤ b := (Nat.pow_le_pow_iff_right (by decide)).1 hab
  obtain ⟨k, rfl⟩ := Nat.exists_eq_add_of_le hle
  have hlog : m.log2 = k + 23 := by omega
  have hmlow : (2 ^ 24 - 1) * 2 ^ k ≤ m := by
    refine Nat.le_of_mul_le_mul_right (Eq.trans_le ?_ hlow) (Nat.two_pow_pos a)
    rw [mul_assoc, ← pow_add, add_comm k]
  rw [hlog, show k + 23 + 1 = 24 + k by omega] at hm
  rw [hlog]
  exact ⟨by omega, roundShift_eq_of_half_below hmlow hm⟩

/-- The least normal number is what such a magnitude rounds to. -/
theorem isRounded_minNormal (hp : a + m.log2 = b + 23) (h22 : 22 ≤ m.log2)
    (hq : roundShift m (m.log2 - 22) = 2 ^ 23) :
    IsRounded sign (m * 2 ^ a) (2 ^ b) (2 ^ 23) 1 (minNormal sign) := by
  refine ⟨packFloat_normal sign 0 le_rfl (by decide), packFloat_value sign 0 (by decide),
    fun _ => packFloat_lowBit .., .inl rfl, ?_⟩
  have hnear := roundShift_nearest m (m.log2 - 22)
  rw [hq] at hnear
  refine hnear.of_ratio (Nat.two_pow_pos _) (by positivity) ?_
  rw [mul_assoc, ← pow_add, ← pow_add]
  congr 2
  omega

/-- `roundFloat` gives the nearest normal number whenever the magnitude rounds to one; at the scale
`2 ^ b` the magnitude is `m * 2 ^ a`. -/
theorem roundFloat_nearest (hlow : (2 ^ 24 - 1) * 2 ^ b ≤ m * 2 ^ a)
    (hhigh : m * 2 ^ a < (2 ^ 25 - 1) * 2 ^ (253 + b)) :
    ∃ d, roundFloat sign m ((a : Int) - 150 - b) = some d
      ∧ isNearest (signFactor sign * (m * 2 ^ a : Nat)) (2 ^ b) d := by
  have hm : m ≠ 0 := by
    rintro rfl
    have := Nat.two_pow_pos b
    omega
  have hp : b + 23 ≤ a + m.log2 := by
    have hlt : 2 ^ (b + 23) < 2 ^ (m.log2 + 1 + a) := by
      calc 2 ^ (b + 23) = 2 ^ 23 * 2 ^ b := by rw [add_comm, pow_add]
        _ ≤ (2 ^ 24 - 1) * 2 ^ b := Nat.mul_le_mul_right _ (by decide)
        _ ≤ m * 2 ^ a := hlow
        _ < 2 ^ (m.log2 + 1) * 2 ^ a := Nat.mul_lt_mul_of_pos_right Nat.lt_log2_self
          (Nat.two_pow_pos a)
        _ = 2 ^ (m.log2 + 1 + a) := (pow_add ..).symm
    have := (Nat.pow_lt_pow_iff_right (by decide)).1 hlt
    omega
  obtain hlt | heq := Nat.lt_or_eq_of_le hp
  · have hk : a + m.log2 - b - 23 + b + 23 = a + m.log2 := by omega
    have hfit := packExp_normalSig_le hm hk hhigh
    exact ⟨_, roundFloat_eq_some (by omega) (by omega) hfit,
      (isRounded_packSig hm hk (by omega) hfit).isNearest (Nat.two_pow_pos b)⟩
  · obtain ⟨h22, hq⟩ := roundShift_below_minNormal heq.symm hlow
    refine ⟨minNormal sign, ?_,
      (isRounded_minNormal heq.symm h22 hq).isNearest (Nat.two_pow_pos b)⟩
    exact (if_pos (by omega)).trans (if_pos ⟨h22, hq⟩)

end RoundFloat

/-! ### The rounding of `fop32` (R320) -/

/-- `d` is the nearest normal number to `x / scale`, where binary32 rounds that to a normal one. -/
def RoundsTo (x : Int) (scale : Nat) (d : Long) : Prop :=
  (2 ^ 24 - 1) * scale ≤ |x| → |x| < (2 ^ 25 - 1) * 2 ^ 253 * scale → isNearest x scale d

/-- An integer by its sign and magnitude. -/
theorem eq_signFactor_mul_natAbs (x : Int) : x = signFactor (decide (x < 0)) * x.natAbs := by
  by_cases hx : x < 0
  · simp only [signFactor, hx, decide_true, if_true]
    omega
  · simp only [signFactor, hx, decide_false, Bool.false_eq_true, if_false]
    omega

/-- `roundFloat` rounds, whatever stands for the results that are not normal. -/
theorem roundFloat_roundsTo (sign : Bool) (m a b : Nat) (other : Long) :
    RoundsTo (signFactor sign * (m * 2 ^ a : Nat)) (2 ^ b)
      ((roundFloat sign m ((a : Int) - 150 - b)).getD other) := by
  intro hlow hhigh
  rw [abs_signFactor_mul] at hlow hhigh
  obtain ⟨d, hd, hnear⟩ := roundFloat_nearest (sign := sign) (m := m) (a := a) (b := b)
    (by omega) (by rw [pow_add]; omega)
  rwa [hd]

/-- A value as a signed significand at a step that is not above its own. -/
theorem floatValue_eq_signedSig {x : Long} {e : Nat} (he : e ≤ expField x) :
    floatValue x = signedSig x (expField x - e) * 2 ^ e := by
  rw [floatValue_eq, show signedSig x (expField x - e)
    = signFactor x.msb * (significand x * 2 ^ (expField x - e) : Nat) from rfl]
  rw [← Nat.sub_add_cancel he, pow_add]
  push_cast
  rw [Nat.add_sub_cancel]
  ring

/-- The sum of two numbers rounds. -/
theorem addNormal_roundsTo (a b other : Long) :
    RoundsTo (floatValue a + floatValue b) 1 ((addNormal a b).getD other) := by
  rw [addNormal, floatValue_eq_signedSig (min_le_left (expField a) (expField b)),
    floatValue_eq_signedSig (min_le_right (expField a) (expField b)), ← add_mul]
  generalize signedSig a _ + signedSig b _ = x
  generalize min (expField a) (expField b) = e
  by_cases hx : x = 0
  · intro hlow
    simp [hx] at hlow
  · have h := roundFloat_roundsTo (decide (x < 0)) x.natAbs e 0 other
    rw [Nat.cast_mul, ← mul_assoc, ← eq_signFactor_mul_natAbs] at h
    simpa [hx] using h

/-- The product of two numbers rounds. -/
theorem mulNormal_roundsTo (a b other : Long) :
    RoundsTo (floatValue a * floatValue b) (2 ^ 150) ((mulNormal a b).getD other) := by
  have hsign : signFactor (a.msb ^^ b.msb) = signFactor a.msb * signFactor b.msb := by
    cases a.msb <;> cases b.msb <;> rfl
  have hvalue : floatValue a * floatValue b = signFactor (a.msb ^^ b.msb)
      * (significand a * significand b * 2 ^ (expField a + expField b) : Nat) := by
    rw [floatValue_eq, floatValue_eq, hsign, pow_add]
    push_cast
    ring
  have hexp : ((expField a + expField b : Nat) : Int) - 150 - (150 : Nat)
      = expField a + expField b - 300 := by omega
  rw [hvalue, mulNormal, ← hexp]
  exact roundFloat_roundsTo _ _ _ _ other

theorem floatValue_flipSign (x : Long) : floatValue (x ^^^ 0x80000000#32) = -floatValue x := by
  have hmsb : (x ^^^ 0x80000000#32).msb = !x.msb := by
    rw [BitVec.msb_xor, show (0x80000000#32).msb = true from rfl, Bool.xor_true]
  have hexp : expField (x ^^^ 0x80000000#32) = expField x :=
    congrArg BitVec.toNat (BitVec.extractLsb'_xor.trans BitVec.xor_zero)
  have hfrac : fracField (x ^^^ 0x80000000#32) = fracField x :=
    BitVec.extractLsb'_xor.trans BitVec.xor_zero
  have hsign : signFactor (!x.msb) = -signFactor x.msb := by cases x.msb <;> rfl
  rw [floatValue_eq, floatValue_eq, significand, hmsb, hexp, hfrac, hsign, neg_mul]
  rfl

/-- What `fop32` computes on normal operands; the difference is the sum with the other sign. -/
def normalResult : Config.FOp → Long → Long → Option Long
  | .add => addNormal
  | .sub => fun a b => addNormal a (b ^^^ 0x80000000#32)
  | .mul => mulNormal

section Fop32

variable {a b : Long}

theorem fop32_of_normal (op : Config.FOp) (ha : isNormalFloat a) (hb : isNormalFloat b) :
    fop32 op a b = (normalResult op a b).getD (Config.fop32 op a b) := by
  simp only [fop32, isNormal_of_isNormalFloat ha, isNormal_of_isNormalFloat hb, Bool.and_self,
    if_true]
  cases op <;> rfl

/-- The sum of two normal operands rounds. -/
theorem fop32_add_roundsTo (ha : isNormalFloat a) (hb : isNormalFloat b) :
    RoundsTo (floatValue a + floatValue b) 1 (fop32 .add a b) := by
  rw [fop32_of_normal _ ha hb]
  exact addNormal_roundsTo a b _

/-- The difference of two normal operands rounds. -/
theorem fop32_sub_roundsTo (ha : isNormalFloat a) (hb : isNormalFloat b) :
    RoundsTo (floatValue a - floatValue b) 1 (fop32 .sub a b) := by
  rw [fop32_of_normal _ ha hb, sub_eq_add_neg, ← floatValue_flipSign]
  exact addNormal_roundsTo a (b ^^^ 0x80000000#32) _

/-- The product of two normal operands rounds. -/
theorem fop32_mul_roundsTo (ha : isNormalFloat a) (hb : isNormalFloat b) :
    RoundsTo (floatValue a * floatValue b) (2 ^ 150) (fop32 .mul a b) := by
  rw [fop32_of_normal _ ha hb]
  exact mulNormal_roundsTo a b _

end Fop32

/-- The magnitude of a normal number lies in the range that binary32 rounds to normal numbers. -/
theorem abs_floatValue_bounds {r : Long} (hr : isNormalFloat r) :
    2 ^ 24 - 1 ≤ |floatValue r| ∧ |floatValue r| < (2 ^ 25 - 1) * 2 ^ 253 := by
  obtain ⟨hpos, hle⟩ := (isNormalFloat_iff r).1 hr
  obtain ⟨hlow, hhigh⟩ := significand_bounds r
  have hge : 2 ^ 23 * 2 ^ 1 ≤ significand r * 2 ^ expField r :=
    Nat.mul_le_mul hlow (Nat.pow_le_pow_right (by decide) hpos)
  have hlt : significand r * 2 ^ expField r ≤ (2 ^ 24 - 1) * 2 ^ 254 :=
    Nat.mul_le_mul (by omega) (Nat.pow_le_pow_right (by decide) hle)
  rw [floatValue_eq, abs_signFactor_mul]
  omega

/-- A result that rounds is exact where a normal number has the value: none is nearer than that. -/
theorem RoundsTo.exact {x : Int} {scale : Nat} {d r : Long} (h : RoundsTo x scale d)
    (hscale : 0 < scale) (hr : isNormalFloat r) (hx : x = floatValue r * scale) : d = r := by
  subst hx
  have hpos : (0 : Int) < scale := by exact_mod_cast hscale
  obtain ⟨hlow, hhigh⟩ := abs_floatValue_bounds hr
  have habs : |floatValue r * scale| = |floatValue r| * scale := by rw [abs_mul, Nat.abs_cast]
  obtain ⟨hd, hnear⟩ := h (habs ▸ mul_le_mul_of_nonneg_right hlow hpos.le)
    (habs ▸ mul_lt_mul_of_pos_right hhigh hpos)
  have hdist := (hnear r hr.2).1
  rw [floatValue_eq_of_normal hr, sub_self, abs_zero] at hdist
  have heq := sub_eq_zero.1 (abs_nonpos_iff.1 hdist)
  rw [floatValue_eq_of_normal hd] at heq
  exact floatValue_injective (mul_right_cancel₀ hpos.ne' heq).symm

/-- Settles O23: `fop32` rounds, and what rounds is exact where that is possible; the rounding step is
that to the nearest multiple. -/
theorem floatRounding : Obligations.FloatRounding := by
  refine ⟨fun a b r ha hb hr => ⟨fun h => ?add, fun h => ?sub, fun h => ?mul⟩,
    fun a b ha hb => ⟨fop32_add_roundsTo ha hb, fop32_sub_roundsTo ha hb, fop32_mul_roundsTo ha hb⟩,
    fun m k => ?step⟩
  case add => exact (fop32_add_roundsTo ha hb).exact Nat.one_pos hr (by rw [h, Nat.cast_one, mul_one])
  case sub => exact (fop32_sub_roundsTo ha hb).exact Nat.one_pos hr (by rw [h, Nat.cast_one, mul_one])
  case mul => exact (fop32_mul_roundsTo ha hb).exact (Nat.two_pow_pos 150) hr (by rw [h]; rfl)
  case step => simpa only [NearestMultiple, Nat.cast_pow, Nat.cast_ofNat] using roundShift_nearest m k

end Sys2Proof.Machine

/-! The first approximations FIN and FINR (spec/44_fadd_to_ftst.md R323, R324): one equation per case of
the result, and V by the fields of the operand. -/

namespace Sys2Proof.Machine

/-! ### Zeros, NaNs and the high fields -/

/-- The sign and the exponent field of a packed number. -/
theorem packFloat_high (sign : Bool) (e : Nat) (f : BitVec 23) :
    (packFloat sign e f).extractLsb' 23 9 = BitVec.ofBool sign ++ BitVec.ofNat 8 e := by
  simp [packFloat]

/-- A field of eight bits below a zero sign, as an integer of nine. -/
theorem zero_append_ofNat {k : Nat} (hk : k < 2 ^ 8) :
    BitVec.ofBool false ++ BitVec.ofNat 8 k = BitVec.ofInt 9 k := by
  rw [BitVec.ofInt_natCast]
  apply BitVec.eq_of_toNat_eq
  simp only [BitVec.toNat_append, BitVec.toNat_ofBool, Bool.toNat_false, BitVec.toNat_ofNat,
    Nat.zero_shiftLeft, Nat.zero_or]
  omega

/-- A zero of either sign has the magnitude 0. -/
theorem packFloat_zero_magnitude (sign : Bool) : (packFloat sign 0 0).extractLsb' 0 31 = 0 := by
  cases sign <;> rfl

/-- A zero with the sign of a number. -/
theorem packFloat_zero_eq (x : Long) : packFloat x.msb 0 0 = x.extractLsb' 31 1 ++ 0#31 := by
  rw [signField_eq]
  cases x.msb <;> rfl

/-- The fields of a number of magnitude 0 are 0. -/
theorem fields_of_magnitude_zero {x : Long} (h : x.extractLsb' 0 31 = 0) :
    expField x = 0 ∧ fracField x = 0 := by
  have hexp : x.extractLsb' 23 8 = (x.extractLsb' 0 31).extractLsb' 23 8 := by
    rw [BitVec.extractLsb'_extractLsb'_of_le (by decide)]
  have hfrac : x.extractLsb' 0 23 = (x.extractLsb' 0 31).extractLsb' 0 23 := by
    rw [BitVec.extractLsb'_extractLsb'_of_le (by decide)]
  rw [h] at hexp hfrac
  exact ⟨congrArg BitVec.toNat hexp, hfrac⟩

/-- A number that is not special is no NaN. -/
theorem isNaN_eq_false {x : Long} (hle : expField x ≤ 254) : isNaN x = false := by
  have hexp : expField x ≠ 255 := by omega
  rw [isNaN, beq_false_of_ne hexp, Bool.false_and]

/-- A NaN in the words of the rule. -/
theorem isNaN_eq (x : Long) :
    isNaN x = (decide (x.extractLsb' 23 8 = 255) && decide (x.extractLsb' 0 23 ≠ 0)) := by
  have hexp : (expField x == 255) = decide (x.extractLsb' 23 8 = 255) :=
    decide_eq_decide.2 (expField_eq_iff x (by decide))
  rw [isNaN, hexp, fracField, bne, decide_not]
  rfl

/-! ### FIN (R323) -/

/-- V of FIN is 0 for a normal number and for an infinity. -/
theorem finV_eq_false {x : Long} (hpos : 1 ≤ expField x)
    (hnan : expField x = 255 → fracField x = 0) : finV x = false := by
  have hmag : x.extractLsb' 0 31 ≠ 0 := fun h => by
    have := (fields_of_magnitude_zero h).1
    omega
  have hq : x ≠ qNaN := by
    rintro rfl
    exact absurd (hnan rfl) (by decide)
  rw [finV, beq_false_of_ne hmag, beq_false_of_ne hq, Bool.or_self]

/-- FIN of an infinity is a zero with its sign. -/
theorem finResult_infinity {x : Long} (he : expField x = 255) (hf : fracField x = 0) :
    finResult x = x.extractLsb' 31 1 ++ 0#31 :=
  (if_pos ⟨he, hf⟩).trans (packFloat_zero_eq x)

/-- FIN of a power of two, by its exponent `n`. -/
theorem finResult_power {x : Long} {n : Int} (hn : (expField x : Int) = n + 127)
    (hf : fracField x = 0) (hpos : 1 ≤ expField x) (hle : expField x ≤ 253) :
    finResult x = x.extractLsb' 31 1 ++ BitVec.ofInt 8 (127 - n) ++ 0#23 := by
  have hfin : ¬ (expField x = 255 ∧ fracField x = 0) := by omega
  rw [finResult, if_neg hfin, if_pos ⟨hf, hpos, hle⟩, signField_eq,
    show 127 - n = ((254 - expField x : Nat) : Int) by omega, BitVec.ofInt_natCast]
  rfl

/-- FIN of another normal number, by its exponent `n`: the fraction is open. -/
theorem finResult_high {x : Long} {n : Int} (hn : (expField x : Int) = n + 127)
    (hf : fracField x ≠ 0) (hpos : 1 ≤ expField x) (hle : expField x ≤ 252) :
    (finResult x).extractLsb' 23 9 = x.extractLsb' 31 1 ++ BitVec.ofInt 8 (126 - n) := by
  rw [finResult, if_neg fun h => hf h.2, if_neg fun h => hf h.1, if_pos ⟨hf, hpos, hle⟩,
    packFloat_high, signField_eq, show 126 - n = ((253 - expField x : Nat) : Int) by omega,
    BitVec.ofInt_natCast]

/-! ### FINR (R324) -/

/-- V of FINR: that of FIN, or an operand below 0. -/
theorem finrV_eq (x : Long) : finrV x = (finV x || (x.msb && !isNaN x)) := by
  rw [finrV, finV, Bool.or_assoc, Bool.or_comm]

/-- FINR of a positive normal number, by the parity of its exponent field, which is odd for an even
exponent. -/
theorem finrResult_normal {x : Long} (hmsb : x.msb = false) (hpos : 1 ≤ expField x)
    (hle : expField x ≤ 254) :
    finrResult x =
      if expField x % 2 = 1 then
        if fracField x = 0 then packFloat false (127 + 63 - expField x / 2) 0
        else packFloat false (126 + 63 - expField x / 2) (Config.finr32 x)
      else packFloat false (127 + 63 - expField x / 2) (Config.finr32 x) := by
  have hfin : ¬ expField x = 255 := by omega
  have hspecial : ¬ (x.msb ∨ expField x = 0 ∨ (expField x = 255 ∧ fracField x ≠ 0)) := by
    simp only [hmsb, Bool.false_eq_true, false_or]
    omega
  rw [finrResult, if_neg hspecial, if_neg hfin]

/-- The exponent field and the fraction of FINR of a positive normal number, by its exponent `n`. -/
theorem finrResult_fields {x : Long} {n : Int} (hn : (expField x : Int) = n + 127)
    (hmsb : x.msb = false) (hpos : 1 ≤ expField x) (hle : expField x ≤ 254) :
    (n % 2 = 0 ∧ fracField x = 0 →
        finrResult x = 0#1 ++ BitVec.ofInt 8 (127 - n / 2) ++ 0#23)
      ∧ (n % 2 = 0 ∧ fracField x ≠ 0 →
        (finrResult x).extractLsb' 23 9 = BitVec.ofInt 9 (127 - (n / 2 + 1)))
      ∧ (n % 2 = 1 → (finrResult x).extractLsb' 23 9 = BitVec.ofInt 9 (127 - (n + 1) / 2)) := by
  rw [finrResult_normal hmsb hpos hle]
  refine ⟨fun ⟨hpar, hf⟩ => ?exact, fun ⟨hpar, hf⟩ => ?even, fun hpar => ?odd⟩
  case exact =>
    rw [if_pos (by omega), if_pos hf,
      show 127 - n / 2 = ((127 + 63 - expField x / 2 : Nat) : Int) by omega, BitVec.ofInt_natCast]
    rfl
  case even =>
    rw [if_pos (by omega), if_neg hf, packFloat_high, zero_append_ofNat (by omega)]
    congr 1
    omega
  case odd =>
    rw [if_neg (by omega), packFloat_high, zero_append_ofNat (by omega)]
    congr 1
    omega

/-- Settles O27: each clause is one case of the result; V of FINR is that of FIN or the sign. -/
theorem reciprocalSeeds : Obligations.ReciprocalSeeds := by
  intro f s ex hb b x e fr n mag
  have hn : (expField x : Int) = n + 127 := (sub_add_cancel _ _).symm
  have hnormal (hpos : 1 ≤ expField x) (hle : expField x ≤ 254) : finV x = false :=
    finV_eq_false hpos (by omega)
  refine ⟨finResult x, finrResult x, finV x, finrV x,
    exec_next_of_free (op := .fin) hb rfl rfl, exec_next_of_free (op := .finr) hb rfl rfl,
    rfl, ?vr, ?infinity, ?power, ?other, ?finrInfinity, ?finr, ?special, ?negative⟩
  case vr => rw [finrV_eq, isNaN_eq]
  case infinity =>
    rintro ⟨hexp, hf⟩
    have hinf : expField x = 255 := (expField_eq_iff x (by decide)).2 hexp
    exact ⟨finResult_infinity hinf hf, finV_eq_false (by omega) fun _ => hf⟩
  case power =>
    rintro ⟨hf, hpos, hle⟩
    exact ⟨finResult_power hn hf hpos hle, hnormal hpos (hle.trans (by decide))⟩
  case other =>
    rintro ⟨hf, hpos, hle⟩
    exact ⟨finResult_high hn hf hpos hle, hnormal hpos (hle.trans (by decide))⟩
  case finrInfinity =>
    intro hx
    rw [hx]
    exact ⟨rfl, rfl⟩
  case finr =>
    rintro ⟨hmsb, hpos, hle⟩
    refine ⟨?_, finrResult_fields hn hmsb hpos hle⟩
    rw [finrV_eq, hnormal hpos hle, hmsb]
    rfl
  case special =>
    intro hx
    have hv : finV x = true := by
      rw [finV, Bool.or_eq_true, beq_iff_eq, beq_iff_eq]
      exact hx
    exact ⟨hv, by rw [finrV_eq, hv, Bool.true_or]⟩
  case negative =>
    rintro ⟨hmsb, -, hle⟩
    rw [finrV_eq, hmsb, isNaN_eq_false hle, Bool.not_false, Bool.and_true, Bool.or_true]

end Sys2Proof.Machine

/-! FINT and FLOOR (spec/44_fadd_to_ftst.md R325, R326): an integer magnitude up to `2 ^ 24` is written
exactly (`intFloat_isIntegral`), that of FINT is the nearest multiple of the unit and that of FLOOR the
greatest one not above. -/

namespace Sys2Proof.Machine

/-! ### Integers as numbers of the format -/

/-- `d` is the number of value `n`: a normal one, or a zero of either sign. -/
def IsIntegral (d : Long) (n : Int) : Prop :=
  (n = 0 → d.extractLsb' 0 31 = 0)
    ∧ (n ≠ 0 → isNormalFloat d ∧ floatValue d = n * 2 ^ 150)

/-- A magnitude up to `2 ^ 24` is packed without rounding. -/
theorem roundFloat_exact (sign : Bool) {m : Nat} (hm : m ≠ 0) (hle : m ≤ 2 ^ 24) :
    ∃ d, roundFloat sign m 0 = some d ∧ isNormalFloat d
      ∧ floatValue d = signFactor sign * m * 2 ^ 150 := by
  have hlog : m.log2 < 25 := (Nat.log2_lt hm).2 (by omega)
  have hfit : packExp (normalSig m) (m.log2 + 127) ≤ 254 := (packExp_le ..).trans (by omega)
  have hr := isRounded_packSig (sign := sign) (a := 150) (b := 0) hm (by omega) (by omega) hfit
  have hexact := hr.nearest.eq_of_dvd (by positivity) (by simpa using step_dvd_of_le hm hle)
  rw [pow_zero, mul_one] at hexact
  refine ⟨_, roundFloat_eq_some (by omega) (by omega) hfit, hr.normal, ?_⟩
  have hscaled : (m : Int) * 2 ^ 150 = (m * 2 ^ 150 : Nat) := by
    rw [Nat.cast_mul, Nat.cast_pow]
    rfl
  rw [hr.value, mul_assoc, hscaled, ← hexact]
  push_cast
  rfl

/-- FINT and FLOOR write an integer magnitude up to `2 ^ 24` exactly. -/
theorem intFloat_isIntegral (op : Op) (x : Long) {m : Nat} (hle : m ≤ 2 ^ 24) :
    IsIntegral (intFloat op x m) (signFactor x.msb * m) := by
  by_cases hm : m = 0
  · subst hm
    rw [Nat.cast_zero, mul_zero]
    exact ⟨fun _ => packFloat_zero_magnitude _, fun h => absurd rfl h⟩
  · obtain ⟨d, hd, hnormal, hvalue⟩ := roundFloat_exact x.msb hm hle
    rw [intFloat, if_neg hm, hd]
    refine ⟨fun h => ?_, fun _ => ⟨hnormal, hvalue⟩⟩
    have habs := abs_signFactor_mul x.msb m
    rw [h, abs_zero] at habs
    omega

/-! ### FINT and FLOOR by their cases (R325, R326) -/

section Integral

variable (op : Op) (mag : Nat → Nat → Nat) {x : Long}

/-- From the exponent 150 on every number is an integer, or special, and stays. -/
theorem toIntegral_large (h : 150 ≤ expField x) : toIntegral op mag x = x :=
  if_pos (.inr h)

/-- A zero gives a zero. -/
theorem toIntegral_zero (h : x.extractLsb' 0 31 = 0) :
    (toIntegral op mag x).extractLsb' 0 31 = 0 := by
  obtain ⟨hexp, hfrac⟩ := fields_of_magnitude_zero h
  rw [toIntegral, if_neg (by omega), if_pos hexp, if_pos hfrac]
  exact packFloat_zero_magnitude _

/-- A normal number with fraction bits gives the integer of `mag`. -/
theorem toIntegral_small (hpos : 1 ≤ expField x) (hlt : expField x < 150) :
    toIntegral op mag x = intFloat op x (mag (significand x) (150 - expField x)) := by
  rw [toIntegral, if_neg (by omega), if_neg (by omega)]

end Integral

/-! ### FINT (R325) -/

theorem signFactor_mul_even (sign : Bool) {q : Nat} (h : q % 2 = 0) :
    signFactor sign * q % 2 = 0 := by
  rw [Int.mul_emod, show (q : Int) % 2 = 0 by omega, mul_zero, Int.zero_emod]

/-- The rounded magnitude of a significand is an integer of the format. -/
theorem roundShift_significand_le (x : Long) (k : Nat) : roundShift (significand x) k ≤ 2 ^ 24 :=
  (roundShift_nearest _ k).le_of_le_mul (Nat.two_pow_pos k)
    ((significand_bounds x).2.le.trans (Nat.le_mul_of_pos_right _ (Nat.two_pow_pos k)))

/-- FINT gives the nearest integer, the even one of two equally near. -/
theorem fint_nearest {x : Long} (hpos : 1 ≤ expField x) (hlt : expField x < 150) :
    ∃ n : Int, 2 * |n * 2 ^ 150 - floatValue x| ≤ 2 ^ 150
      ∧ (2 * |n * 2 ^ 150 - floatValue x| = 2 ^ 150 → n % 2 = 0)
      ∧ IsIntegral (toIntegral .fint roundShift x) n := by
  obtain ⟨hle, htie⟩ : NearestMultiple (significand x * 2 ^ expField x) (2 ^ 150)
      (roundShift (significand x) (150 - expField x)) := by
    refine (roundShift_nearest _ _).of_ratio (Nat.two_pow_pos _) (Nat.two_pow_pos _) ?_
    rw [mul_assoc, ← pow_add, Nat.add_sub_cancel' hlt.le]
  have hdist (n : Nat) : |signFactor x.msb * n * 2 ^ 150 - floatValue x|
      = |(n * (2 ^ 150 : Nat) : Int) - (significand x * 2 ^ expField x : Nat)| := by
    rw [floatValue_eq, mul_assoc, ← mul_sub, abs_mul, abs_signFactor, one_mul]
    rfl
  refine ⟨signFactor x.msb * roundShift (significand x) (150 - expField x), ?_, ?_, ?_⟩
  · rwa [hdist]
  · rw [hdist]
    exact fun heq => signFactor_mul_even x.msb (htie heq)
  · rw [toIntegral_small _ _ hpos hlt]
    exact intFloat_isIntegral _ _ (roundShift_significand_le ..)

/-! ### FLOOR (R326) -/

/-- The magnitude of FLOOR with the sign is the greatest multiple of the step that is not above. -/
theorem floorMag_greatest (neg : Bool) (m k : Nat) :
    signFactor neg * floorMag neg m k * 2 ^ k ≤ signFactor neg * m
      ∧ signFactor neg * m < (signFactor neg * floorMag neg m k + 1) * 2 ^ k := by
  have hlt : ((m % 2 ^ k : Nat) : Int) < 2 ^ k := by exact_mod_cast Nat.mod_lt m (Nat.two_pow_pos k)
  have hm : (m : Int) = (m / 2 ^ k : Nat) * 2 ^ k + (m % 2 ^ k : Nat) := by
    exact_mod_cast (Nat.div_add_mod' m (2 ^ k)).symm
  have hr : (0 : Int) ≤ (m % 2 ^ k : Nat) := Int.natCast_nonneg _
  cases neg with
  | true =>
    simp only [signFactor, if_true]
    by_cases h0 : m % 2 ^ k = 0
    · have hmag : floorMag true m k = m / 2 ^ k := if_neg fun h => h.2 h0
      have hzero : ((m % 2 ^ k : Nat) : Int) = 0 := by rw [h0, Nat.cast_zero]
      rw [hmag]
      constructor <;> linarith
    · have hmag : floorMag true m k = m / 2 ^ k + 1 := if_pos ⟨rfl, h0⟩
      have hpos : (1 : Int) ≤ (m % 2 ^ k : Nat) := by omega
      rw [hmag, Nat.cast_add, Nat.cast_one]
      constructor <;> linarith
  | false =>
    have hmag : floorMag false m k = m / 2 ^ k := if_neg nofun
    rw [hmag]
    simp only [signFactor, Bool.false_eq_true, if_false]
    constructor <;> linarith

theorem floorMag_significand_le (neg : Bool) (x : Long) (k : Nat) :
    floorMag neg (significand x) k ≤ 2 ^ 24 := by
  have hq : significand x / 2 ^ k < 2 ^ 24 :=
    (Nat.div_le_self ..).trans_lt (significand_bounds x).2
  unfold floorMag
  split <;> omega

/-- FLOOR gives the greatest integer not above the operand. -/
theorem floor_greatest {x : Long} (hpos : 1 ≤ expField x) (hlt : expField x < 150) :
    ∃ n : Int, n * 2 ^ 150 ≤ floatValue x ∧ floatValue x < (n + 1) * 2 ^ 150
      ∧ IsIntegral (toIntegral .floor (floorMag x.msb) x) n := by
  obtain ⟨hle, hgt⟩ := floorMag_greatest x.msb (significand x) (150 - expField x)
  have hunit : (0 : Int) < 2 ^ expField x := by positivity
  have hone : (2 ^ 150 : Int) = 2 ^ (150 - expField x) * 2 ^ expField x := by
    rw [← pow_add, Nat.sub_add_cancel hlt.le]
  have hvalue : floatValue x = signFactor x.msb * significand x * 2 ^ expField x := by
    rw [floatValue_eq, Nat.cast_mul, Nat.cast_pow, mul_assoc]
    rfl
  rw [hvalue, hone, toIntegral_small _ _ hpos hlt]
  refine ⟨_, ?_, ?_, intFloat_isIntegral _ _ (floorMag_significand_le ..)⟩
  · rw [← mul_assoc]
    exact mul_le_mul_of_nonneg_right hle hunit.le
  · rw [← mul_assoc]
    exact mul_lt_mul_of_pos_right hgt hunit

/-- Settles O28: the large operands, the zeros, and the integers of FINT and FLOOR. -/
theorem integralFloats : Obligations.IntegralFloats := by
  intro f s ex hb b x e one done holds
  exact ⟨toIntegral .fint roundShift x, toIntegral .floor (floorMag x.msb) x,
    exec_float (op := .fint) hb rfl rfl, exec_float (op := .floor) hb rfl rfl,
    fun h => ⟨toIntegral_large _ _ h, toIntegral_large _ _ h⟩,
    fun h => ⟨toIntegral_zero _ _ h, toIntegral_zero _ _ h⟩,
    fun ⟨hpos, hlt⟩ => ⟨fint_nearest hpos hlt, floor_greatest hpos hlt⟩⟩

end Sys2Proof.Machine

/-! Jumps and the return from a subroutine (spec/45_inc_to_lsrx.md R353 to R355, spec/49_rts_to_tstx.md
R480): the same program flow as the branches, with an absolute target or the top of the system stack. -/

namespace Sys2Proof.Machine

/-- Settles O42: each is program flow under its condition; JD leaves its target to the next instruction,
JS pushes the address behind it, and RTS takes the top entry as its target and drops it. -/
theorem jumpsAndReturn : Obligations.JumpsAndReturn := by
  intro cc tg s hd x branch
  have hj : exec (.j cc tg) s = branch { s with pc := x } := flow_goto hd rfl
  have hjd : exec (.jd cc tg) s = branch { s with pc := s.pc + 1, delay := some x } :=
    flow_later hd rfl
  have hjs : exec (.js cc tg) s = branch { s.pushSS (s.pc + 1) with pc := x } := flow_goto hd rfl
  have hrts : exec (.rts cc) s = branch { s.dropSS with pc := s.topSS } := flow_goto hd rfl
  exact ⟨hj, hjd, hjs, hrts⟩

end Sys2Proof.Machine

/-! The extrema and the accumulations (spec/46_mac_to_minml.md R380 to R391): a magnitude is an absolute
value, each accumulation is one rule over its exact products, and the saturated result is the exact one
limited to the range of its width. -/

namespace Sys2Proof.Machine

/-! ### Extrema -/

/-- The magnitudes compare as the absolute values do (R386). -/
theorem magnitude_lt_magnitude {n : Nat} (a c : BitVec n) :
    magnitude a < magnitude c ↔ |a.toInt| < |c.toInt| := by
  rw [magnitude, magnitude, ← Int.natCast_natAbs, ← Int.natCast_natAbs, Nat.cast_lt]

/-- Settles O13: each extremum is one operand as it stands, selected by the comparison that C records. -/
theorem extrema : Obligations.Extrema := by
  intro f s ex hb b a c al cl short long
  simp only [gt_iff_lt, ← magnitude_lt_magnitude]
  exact ⟨exec_bits16 hb rfl rfl, exec_bits16 hb rfl rfl, exec_bits16 hb rfl rfl,
    exec_bits16 hb rfl rfl, exec_bits32 hb rfl rfl, exec_bits32 hb rfl rfl,
    exec_bits32 hb rfl rfl, exec_bits32 hb rfl rfl⟩

/-! ### One accumulator of 64 bits -/

/-- The sum with an exact product as the rules word it: the flags are those of the new accumulator but
Z (R380). -/
theorem accumulate_eq (s : State) (b : Binding) (p : Int) :
    let new := BitVec.ofInt 64 (s.acc.toInt + p)
    accumulate s b p = .next
      { regs := write64 b.dst s.acc
        ctrl := writeAcc (new.extractLsb' 32 32) (new.extractLsb' 0 32)
        flags := [{ resultFlags new (some (lost (s.acc.toInt + p) new))
                      (some (carryOut s.acc (BitVec.ofInt 64 p) false)) with
                    z := some (decide (s.acc = 0)) }] } := by
  intro new
  rw [← flagsVC_eq new _ _ (by decide), ← overflows_eq 64 _ (by decide), ← addCarry_eq]
  rfl

/-- Settles O19: both operations accumulate an exact product, of the short or of the long operands. -/
theorem multiplyAccumulate : Obligations.MultiplyAccumulate := by
  intro f s ex hb b old done
  exact ⟨exec_next_of_free (op := .mac) hb rfl (accumulate_eq ..),
    exec_next_of_free (op := .macl) hb rfl (accumulate_eq ..)⟩

/-! ### Two accumulators of 32 bits -/

/-- Saturation limits the exact value to the range of the width (R382). -/
theorem saturate_eq (n : Nat) (x : Int) :
    saturate n x = BitVec.ofInt n (max (-2 ^ (n - 1)) (min (2 ^ (n - 1) - 1) x)) := by
  have htop : (0 : Int) < 2 ^ (n - 1) := by positivity
  rw [saturate, ← apply_ite (BitVec.ofInt n), ← apply_ite (BitVec.ofInt n)]
  generalize (2 : Int) ^ (n - 1) = top at htop
  congr 1
  by_cases hhigh : top ≤ x
  · rw [if_pos hhigh, min_eq_left (by omega), max_eq_right (by omega)]
  · rw [if_neg hhigh, min_eq_right (by omega)]
    by_cases hlow : x < -top
    · rw [if_pos hlow, max_eq_left hlow.le]
    · rw [if_neg hlow, max_eq_right (not_lt.1 hlow)]

/-- A narrowed result is the exact one, limited to its range in the saturation mode (R382). -/
theorem narrow_eq (s : State) (n : Nat) (x : Int) :
    s.narrow n x = BitVec.ofInt n
      (if s.satMode then max (-2 ^ (n - 1)) (min (2 ^ (n - 1) - 1) x) else x) := by
  rw [State.narrow, saturate_eq, ← apply_ite (BitVec.ofInt n)]

/-- The flags of two accumulations as the rules word them: V of the exact sums at their width, whatever
the saturation mode (R382, R383). -/
theorem flagsPairAcc_eq (s : State) (x1 x0 : Int) :
    flagsPairAcc s x1 x0
      = { u := some (notNormal (s.narrow 32 x1) && notNormal (s.narrow 32 x0))
          n := some ((s.narrow 32 x1).getMsbD 0)
          z := some (decide (s.ac1 = 0) && decide (s.ac0 = 0))
          v := some (lost x1 (BitVec.ofInt 32 x1) || lost x0 (BitVec.ofInt 32 x0))
          c := some ((s.narrow 32 x0).getMsbD 0) } := by
  rw [← unnorm_eq _ (by decide), ← unnorm_eq _ (by decide), lost_ofInt_32, lost_ofInt_32]
  rfl

/-- Settles O20: both operations accumulate in both halves; what they write to D is the old accumulators
or the narrowed product. -/
theorem pairedAccumulate : Obligations.PairedAccumulate := by
  intro f s ex hb b al cl hi lo p q limit done re im
  have h32 (x : Int) : BitVec.ofInt 32 (limit (2 ^ 31) x) = s.narrow 32 x := (narrow_eq s 32 x).symm
  have h16 (x : Int) : BitVec.ofInt 16 (limit (2 ^ 15) x) = s.narrow 16 x := (narrow_eq s 16 x).symm
  simp only [done, re, im, h32, h16, ← flagsPairAcc_eq]
  exact ⟨exec_next_of_free (op := .mac2) hb rfl rfl, exec_next_of_free (op := .mmacx) hb rfl rfl⟩

end Sys2Proof.Machine

/-! The rotates, the masks and the bit counts (spec/47_move_to_notl.md R427, R428,
spec/48_or_to_rorl.md R457 to R461, R463 to R466, spec/49_rts_to_tstx.md R485, R486): joined fields
are sums of multiples of powers of two, and the recursions over the bits of a word count what the
rules count. -/

namespace Sys2Proof.Machine

/-! ### Rotates through C (R463 to R466) -/

/-- Fields that are joined are a sum, the high one times a power of two. -/
theorem toNat_append_eq_add {n m : Nat} (x : BitVec n) (y : BitVec m) :
    (x ++ y).toNat = x.toNat * 2 ^ m + y.toNat := by
  rw [BitVec.toNat_append, ← Nat.shiftLeft_add_eq_or_of_lt y.isLt, Nat.shiftLeft_eq]

/-- A rotate to the left doubles the value, with C below and the top bit lost (R463). -/
theorem rotateLeft_eq {w : Nat} (x : BitVec (w + 1)) (c : Bool) :
    x.extractLsb' 0 w ++ BitVec.ofBool c = BitVec.ofNat (w + 1) (2 * x.toNat + c.toNat) := by
  apply BitVec.eq_of_toNat_eq
  have hc : c.toNat < 2 := Bool.toNat_lt c
  have hmod : (2 * x.toNat + c.toNat) % 2 ^ (w + 1) / 2 = x.toNat % 2 ^ w := by
    rw [pow_succ', Nat.mod_mul_right_div_self]
    congr 1
    omega
  have hlow : (2 * x.toNat + c.toNat) % 2 ^ (w + 1) % 2 = c.toNat := by
    rw [pow_succ', Nat.mod_mul_right_mod]
    omega
  rw [toNat_append_eq_add, BitVec.extractLsb'_toNat, BitVec.toNat_ofBool, BitVec.toNat_ofNat,
    Nat.shiftRight_zero]
  omega

/-- A rotate to the right halves the value, with C on top and the low bit lost (R465). -/
theorem rotateRight_eq {w : Nat} (x : BitVec (1 + w)) (c : Bool) :
    BitVec.ofBool c ++ x.extractLsb' 1 w
      = BitVec.ofNat (1 + w) (x.toNat / 2 + 2 ^ w * c.toNat) := by
  apply BitVec.eq_of_toNat_eq
  have hx : x.toNat / 2 < 2 ^ w := by
    have := x.isLt
    rw [pow_add] at this
    omega
  have hfits : x.toNat / 2 + 2 ^ w * c.toNat < 2 ^ (1 + w) := by
    have := Nat.mul_le_mul_left (2 ^ w) (Bool.toNat_le c)
    rw [pow_add]
    omega
  rw [toNat_append_eq_add, BitVec.extractLsb'_toNat, BitVec.toNat_ofBool, BitVec.toNat_ofNat,
    Nat.shiftRight_eq_div_pow, pow_one, Nat.mod_eq_of_lt hx, Nat.mod_eq_of_lt hfits, mul_comm,
    add_comm]

/-! ### Masks (R427, R428) -/

/-- The high half of a mask: `h` above as many ones, shifted. -/
theorem maskHigh_eq {w : Nat} (h ones : BitVec w) (n : Nat) :
    ((h ++ ones) <<< n).extractLsb' w w
      = BitVec.ofNat w ((h.toNat * 2 ^ w + ones.toNat) * 2 ^ n / 2 ^ w) := by
  apply BitVec.eq_of_toNat_eq
  rw [BitVec.extractLsb'_toNat, BitVec.toNat_shiftLeft, toNat_append_eq_add, BitVec.toNat_ofNat,
    Nat.shiftLeft_eq, Nat.shiftRight_eq_div_pow, pow_add, Nat.mod_mul_right_div_self, Nat.mod_mod]

/-- Settles O16: the rotates are results written as they stand, with the bit that leaves the word in
C; the masks are their write alone. -/
theorem rotatesAndMasks : Obligations.RotatesAndMasks := by
  intro f s ex hb b x xl k n short long
  have hn : b.count s = n := count_eq b s
  simp only [short, long, k]
  refine ⟨?rol, ?roll, ?ror, ?rorl, exec_next_of_free (op := .mskg) hb rfl ?mskg,
    exec_next_of_free (op := .mskgl) hb rfl ?mskgl⟩
  case rol =>
    rw [← rotateLeft_eq (w := 15)]
    exact exec_bits16 hb rfl rfl
  case roll =>
    rw [← rotateLeft_eq (w := 31)]
    exact exec_bits32 hb rfl rfl
  case ror =>
    rw [← rotateRight_eq (w := 15)]
    exact exec_bits16 hb rfl rfl
  case rorl =>
    rw [← rotateRight_eq (w := 31)]
    exact exec_bits32 hb rfl rfl
  case mskg =>
    rw [← hn, ← show (0xFFFF#16).toNat = 0xFFFF from rfl, ← maskHigh_eq]
    rfl
  case mskgl =>
    rw [← hn, ← show (0xFFFFFFFF#32).toNat = 0xFFFFFFFF from rfl, ← maskHigh_eq]
    rfl

/-! ### The normalisation parameter (R457 to R461) -/

/-- The run of sign bits below bit `k`: its length, the bits in it, and the bit that ends it. -/
theorem signRun_spec {n : Nat} (x : BitVec n) (k : Nat) :
    signRun x k ≤ k ∧ (∀ i, i < signRun x k → x.getLsbD (k - 1 - i) = x.msb)
      ∧ (signRun x k < k → x.getLsbD (k - 1 - signRun x k) ≠ x.msb) := by
  induction k with
  | zero => exact ⟨le_rfl, nofun, nofun⟩
  | succ k ih =>
    obtain ⟨hle, hrun, hend⟩ := ih
    by_cases hbit : x.getLsbD k = x.msb
    · have hs : signRun x (k + 1) = signRun x k + 1 := by simp [signRun, hbit]
      rw [hs]
      refine ⟨by omega, fun i hi => ?_, fun hlt => ?_⟩
      · cases i with
        | zero => exact hbit
        | succ i =>
          rw [show k + 1 - 1 - (i + 1) = k - 1 - i by omega]
          exact hrun i (by omega)
      · rw [show k + 1 - 1 - (signRun x k + 1) = k - 1 - signRun x k by omega]
        exact hend (by omega)
    · have hs : signRun x (k + 1) = 0 := by simp [signRun, hbit]
      rw [hs]
      exact ⟨Nat.zero_le _, nofun, fun _ => hbit⟩

/-- The parameter is the one of the rule. -/
theorem pdn_isPdn {n : Nat} (x : BitVec n) : isPdn x (pdn x) := by
  have h := signRun_spec x (n - 1)
  rwa [show n - 1 - 1 = n - 2 by omega] at h

theorem pdn_lt {n : Nat} (x : BitVec n) (hn : 0 < n) : pdn x < n := by
  have hle : pdn x ≤ n - 1 := (pdn_isPdn x).1
  omega

/-! ### The bit sum (R485, R486) -/

theorem onesBelow_eq_countP {n : Nat} (x : BitVec n) (k : Nat) :
    onesBelow x k = (List.range k).countP fun i => x.getLsbD i := by
  induction k with
  | zero => rfl
  | succ k ih =>
    rw [onesBelow, ih, List.range_succ, List.countP_append, List.countP_singleton]
    cases x.getLsbD k <;> rfl

theorem popcount_eq {n : Nat} (x : BitVec n) : popcount x = onesCount x :=
  onesBelow_eq_countP x n

theorem popcount_le {n : Nat} (x : BitVec n) : popcount x ≤ n := by
  rw [popcount_eq]
  exact List.countP_le_length.trans_eq List.length_range

/-! ### Results of which only Z is written -/

/-- A small number as a `short` result with Z: Z says that the number is 0. -/
theorem zeroFlag16_ofNat (b : Binding) {k : Nat} (hk : k < 2 ^ 16) :
    zeroFlag16 b (BitVec.ofNat 16 k) = .next
      { regs := [(b.dst, BitVec.ofNat 16 k)], flags := [{ z := some (decide (k = 0)) }] } := by
  have hz : (BitVec.ofNat 16 k == 0) = decide (k = 0) :=
    (zero_eq _).trans (by rw [BitVec.toNat_ofNat, Nat.mod_eq_of_lt hk])
  rw [zeroFlag16, hz]
  rfl

/-- An instruction whose `short` result is a small number, with Z. -/
theorem exec_count {i : Instr} {op : Op} {f : Form} {s : State} {ex : Effect} {k : Nat}
    (hb : beside s f = .next ex) (hp : partsOf i = some (op, f))
    (halu : aluOf op s f.binding = zeroFlag16 f.binding (BitVec.ofNat 16 k)) (hk : k < 2 ^ 16)
    (hfree : combinesFreely op = true := by rfl) :
    exec i s = .next (after s f { regs := [(f.binding.dst, BitVec.ofNat 16 k)]
                                  flags := [{ z := some (decide (k = 0)) }] } ex) :=
  exec_next_of_free hb hp (halu.trans (zeroFlag16_ofNat _ hk)) hfree

/-- Settles O17: each parameter is the run of sign bits that the rule asks for, each sum the number
of ones, and both are small enough that Z of the value written is Z of the number. -/
theorem normalisationAndBitSums : Obligations.NormalisationAndBitSums := by
  intro f s ex hb b x xl d short long
  have hpdn {n : Nat} (y : BitVec n) (hpos : 0 < n) (hn : n ≤ 32) : pdn y < 2 ^ 16 := by
    have := pdn_lt y hpos
    omega
  have hones {n : Nat} (y : BitVec n) (hn : n ≤ 32) : popcount y < 2 ^ 16 := by
    have := popcount_le y
    omega
  simp only [← popcount_eq]
  exact ⟨⟨pdn x, pdn_isPdn x, exec_count hb rfl rfl (hpdn x (by decide) (by decide)),
      exec_next_of_free (op := .pdne) hb rfl rfl⟩,
    ⟨pdn xl, pdn_isPdn xl, exec_count hb rfl rfl (hpdn xl (by decide) (by decide)),
      exec_next_of_free (op := .pdnle) hb rfl rfl⟩,
    ⟨_, _, pdn_isPdn _, pdn_isPdn _, exec_count (op := .pdnx) hb rfl rfl
      ((min_le_left ..).trans_lt (hpdn _ (by decide) (by decide)))⟩,
    exec_count hb rfl rfl (hones x (by decide)), exec_count hb rfl rfl (hones xl (by decide))⟩

end Sys2Proof.Machine

/-! The products and SAC2 (spec/47_move_to_notl.md R420 to R426, spec/49_rts_to_tstx.md R481): a
doubled product of fractions leaves 32 bits only for -1 times -1, and its high half is its quotient;
SAC2 narrows the open exact results. -/

namespace Sys2Proof.Machine

/-! ### Products of fractions (R420 to R422) -/

/-- The product of two 16-bit fractions lies above the negative of its greatest value, and reaches
that value only for -1 times -1. -/
theorem fraction_product_bounds (x y : Half) :
    -2 ^ 30 < x.toInt * y.toInt ∧ x.toInt * y.toInt ≤ 2 ^ 30
      ∧ (x.toInt * y.toInt = 2 ^ 30 ↔ x.toInt = -2 ^ 15 ∧ y.toInt = -2 ^ 15) := by
  have hxlow : -2 ^ 15 ≤ x.toInt := BitVec.le_toInt x
  have hxhigh : x.toInt < 2 ^ 15 := BitVec.toInt_lt
  have hylow : -2 ^ 15 ≤ y.toInt := BitVec.le_toInt y
  have hyhigh : y.toInt < 2 ^ 15 := BitVec.toInt_lt
  generalize x.toInt = p at *
  generalize y.toInt = q at *
  refine ⟨by nlinarith, by nlinarith, fun h => ⟨by nlinarith, by nlinarith⟩, ?_⟩
  rintro ⟨rfl, rfl⟩
  rfl

/-- V of a doubled product of fractions: only -1 times -1 is lost (R420, D9). -/
theorem overflows_fraction (x y : Half) :
    overflows 32 (2 * (x.toInt * y.toInt)) = decide (x = 0x8000 ∧ y = 0x8000) := by
  obtain ⟨hlow, hhigh, hmax⟩ := fraction_product_bounds x y
  have hmin (z : Half) : z = 0x8000 ↔ z.toInt = -2 ^ 15 := by
    rw [← BitVec.toInt_inj]
    rfl
  simp only [hmin, ← hmax]
  rw [overflows, ← Bool.decide_or, decide_eq_decide]
  omega

/-- The high half of a doubled product is its quotient, downwards (R421). -/
theorem hi16_ofInt (p : Int) : hi16 (BitVec.ofInt 32 p) = BitVec.ofInt 16 (p / 2 ^ 16) := by
  apply BitVec.eq_of_toNat_eq
  rw [hi16, BitVec.extractLsb'_toNat, BitVec.toNat_ofInt, BitVec.toNat_ofInt,
    Nat.shiftRight_eq_div_pow]
  omega

/-- A product of two fractions and its V in the words of the rule (R421). -/
theorem fracMul_eq (x y : Half) :
    fracMul x y = (BitVec.ofInt 16 (2 * (x.toInt * y.toInt) / 2 ^ 16),
      decide (x = 0x8000 ∧ y = 0x8000)) := by
  rw [fracMul, hi16_ofInt, overflows_fraction]

/-- A pair of halves is 0 when both are. -/
theorem append_toNat_eq_zero (r i : Half) :
    decide ((r ++ i).toNat = 0) = (r == 0#16 && i == 0#16) := by
  rw [zero_eq, zero_eq, ← Bool.decide_and, decide_eq_decide, BitVec.toNat_append,
    Nat.or_eq_zero_iff, Nat.shiftLeft_eq]
  omega

/-- The flags of two fractional products as the rule words them: N and Z of the whole pair, U of
both halves (R421). -/
theorem flagsPair_whole (r i : Half) (v : Bool) :
    flagsPair r i (r == 0 && i == 0) (some v) (some i.msb)
      = { resultFlags (r ++ i) (some v) (some (i.getMsbD 0)) with
          u := some (notNormal r && notNormal i) } := by
  have hn : (r ++ i).getMsbD 0 = r.msb := BitVec.msb_append.trans (if_neg (by decide))
  rw [resultFlags, hn, append_toNat_eq_zero, ← unnorm_eq r (by decide), ← unnorm_eq i (by decide)]
  rfl

/-- An instruction with two products of fractions. -/
theorem exec_fracPair {i : Instr} {op : Op} {f : Form} {s : State} {ex : Effect}
    {x1 y1 x0 y0 : Half} (hb : beside s f = .next ex) (hp : partsOf i = some (op, f))
    (halu : aluOf op s f.binding = fracPair f.binding (fracMul x1 y1) (fracMul x0 y0))
    (hfree : combinesFreely op = true := by rfl) :
    let r := BitVec.ofInt 16 (2 * (x1.toInt * y1.toInt) / 2 ^ 16)
    let i0 := BitVec.ofInt 16 (2 * (x0.toInt * y0.toInt) / 2 ^ 16)
    let v := decide (x1 = 0x8000 ∧ y1 = 0x8000) || decide (x0 = 0x8000 ∧ y0 = 0x8000)
    exec i s = .next (after s f
      { regs := write32 f.binding.dst (r ++ i0)
        flags := [{ resultFlags (r ++ i0) (some v) (some (i0.getMsbD 0)) with
                    u := some (notNormal r && notNormal i0) }] } ex) := by
  refine exec_next_of_free hb hp ?_ hfree
  rw [halu, fracMul_eq, fracMul_eq, fracPair, flagsPair_whole]

/-- Settles O18: MPF, MPSS and MPYL are results written as they stand, MPF2 and MPF2S pairs of
products of fractions, MPX a pair of halves. -/
theorem products : Obligations.Products := by
  intro f s ex hb b a c al cl hi lo byte mpf mpss mpuu mpyl fraction ovf pair yr yi re im
  refine ⟨?mpf, exec_bits32 hb rfl rfl, exec_next_of_free (op := .mpuu) hb rfl ?mpuu,
    exec_next_of_free (op := .mpyl) hb rfl ?mpyl, exec_fracPair (op := .mpf2) hb rfl rfl,
    exec_fracPair (op := .mpf2s) hb rfl rfl, exec_next_of_free (op := .mpx) hb rfl ?mpx⟩
  case mpf =>
    simp only [ovf, ← overflows_fraction]
    exact exec_bits32 hb rfl rfl
  case mpuu =>
    rw [← flagsShift_eq mpuu _ _ (by decide)]
    rfl
  case mpyl =>
    rw [← flagsVC_eq mpyl _ _ (by decide)]
    rfl
  case mpx =>
    simp only [re, im, lost_ofInt_16, ← flagsPair_eq]
    rfl

/-! ### SAC2 (R481) -/

/-- Clearing CCR[8]. -/
theorem withBit_8_false (x : Half) : withBit x 8 false = x &&& 0xFEFF := rfl

/-- An accumulator after SAC2 as the rule words it: the wrapped exact result where it fits or CCR[8]
= 0, the open limit elsewhere (log 16). -/
theorem sac2Narrow_spec (s : State) (x : Int) (limit : Long) :
    (lost x (BitVec.ofInt 32 x) = false ∨ s.ccr.getLsbD 8 = false →
        s.sac2Narrow x limit = BitVec.ofInt 32 x)
      ∧ (lost x (BitVec.ofInt 32 x) = true → s.ccr.getLsbD 8 = true →
        s.sac2Narrow x limit = limit) := by
  rw [sac2Narrow_eq, lost_ofInt_32]
  refine ⟨fun h => if_neg fun ⟨hsat, hover⟩ => ?_, fun hover hsat => if_pos ⟨hsat, hover⟩⟩
  obtain h | h := h
  · rw [hover] at h; cases h
  · rw [show s.ccr.getLsbD 8 = true from hsat] at h; cases h

/-- Settles O21: the new accumulators are the narrowed open results, and V looks at the exact
ones. -/
theorem openAccumulate : Obligations.OpenAccumulate := by
  intro f s ex hb b x r large new
  refine ⟨s.sac2Narrow x.ac1 r.limit1, s.sac2Narrow x.ac0 r.limit0, sac2Narrow_spec ..,
    sac2Narrow_spec .., exec_next_of_free (op := .sac2) hb rfl ?_⟩
  simp only [large, lost_ofInt_32, x, ← withBit_8_false]
  rfl

end Sys2Proof.Machine

/-! Where the machine takes no step, and what it refuses (spec/20_memory.md R79,
spec/70_reset_and_hazards.md R552, R555): a stop of the combination rules answers before any part
runs (`exec_f8_of_stop`, `exec_frameInstr_of_stop`), and an operation that refuses its operands
refuses every instruction that executes it. -/

namespace Sys2Proof.Machine

/-! ### No step (R79, R552) -/

/-- A running state whose fetch is stuck is stuck. -/
theorem step_of_current_fault {s : State} {r : Fault} (hrun : s.running = true)
    (h : s.current = .fault r) : step s = .fault r := by
  rw [step, hrun, h]
  rfl

/-- An address at or beyond PRAM_WORDS is outside program memory. -/
theorem inProgram_of_le {s : State} {addr : Half} (h : s.launch.pramWords ≤ addr.toNat) :
    s.inProgram addr = false :=
  decide_eq_false (not_lt.2 h)

/-- Settles O30: the stopped state has no step, and the fetch looks at the address of the first
word, then at that of the second one of a two-word instruction. -/
theorem whereNoStepIsTaken : Obligations.WhereNoStepIsTaken := by
  refine ⟨fun s hstop => ?_, fun s hrun => ⟨fun hout => ?_, fun hin htwo hout => ?_⟩⟩
  · have hrun : s.running = false := hstop
    rw [step, hrun]
    rfl
  · refine step_of_current_fault hrun ?_
    rw [State.current, inProgram_of_le hout]
    rfl
  · have hfirst : s.inProgram s.pc = true := decide_eq_true hin
    refine step_of_current_fault hrun ?_
    rw [State.current, hfirst, htwo, inProgram_of_le hout]
    rfl

/-! ### The combination rules of format 8 (R555) -/

section Stop

variable {s : State} {op1 op2 : Op} {fr : Frame}

/-- INSL beside a transfer from a data register is refused, unless ASRLE is refused first (U9). -/
theorem frameStop_insl (h : op2 ≠ .asrle) (hr : readsRegister fr = true) :
    frameStop s .insl op2 fr = some .inslWithRegisterSource := by
  simp [frameStop, h, hr]

theorem ne_insl_of_clashesWithY (h : clashesWithY op1 = true) : op1 ≠ .insl := by
  rintro rfl
  cases h

/-- While DD = 0 a Y transfer beside an operation with a second result is refused (U7). -/
theorem frameStop_yTransfer (h : clashesWithY op1 = true) (hy : usesY fr = true)
    (hdd : s.dd = false) : frameStop s op1 op2 fr = some .yTransferWithDD0 := by
  simp [frameStop, ne_insl_of_clashesWithY h, h, hy, hdd]

/-- While DD = 1 only INSL has combinations that are refused. -/
theorem frameStop_of_dd (h : op1 ≠ .insl) (hdd : s.dd = true) : frameStop s op1 op2 fr = none := by
  simp [frameStop, h, hdd]

end Stop

/-! ### Instructions that are refused -/

section Refused

variable {s : State} {r : Refusal} {fr : Frame} {i1 : Slot1} {i2 : Slot2}

/-- An operation alone in the OP1 slot of a combination that is refused. -/
theorem exec_f8_of_stop {op : Op} {m : Bool} {s1 : Opnd} {s2 d : RegNo} (hop : op ≠ .nop)
    (h : frameStop s op .nop fr = some r) :
    exec (instrOf op (.f8 .op1 m s1 s2 d fr)) s = .refused r := by
  rw [exec_of_parts _ op _ s (partsOf_instrOf hop _), runForm, runFrame, h]

/-- Each frame is its pair of operations. -/
theorem exec_frameInstr (i1 : Slot1) (i2 : Slot2) (fr : Frame) (s : State) :
    exec (frameInstr i1 i2 fr) s = runPair s i1 i2 fr := by
  cases fr <;> rfl

/-- A pair of operations in a combination that is refused. -/
theorem exec_frameInstr_of_stop (h : frameStop s i1.op i2.op fr = some r) :
    exec (frameInstr i1 i2 fr) s = .refused r := by
  rw [exec_frameInstr, runPair, runFrame, h]

/-- What an operation refuses, the instruction refuses, whatever stands beside it. -/
theorem finish_both_refused (s : State) (len : Half) (r : Refusal) (p : Part) :
    finish s len (both (.refused r) p) = .refused r := rfl

/-- A format 8 instruction whose OP1 operation is refused, in a combination that nothing forbids. -/
theorem runFrame_of_refused {op1 op2 : Op} {p1 p2 : Part} (hstop : frameStop s op1 op2 fr = none)
    (hp : p1 = .refused r) : runFrame s op1 op2 p1 p2 fr = .refused r := by
  simp only [runFrame, hstop, frameParts_eq, hp, finish_both_refused]

end Refused

/-! ### ADDSUB, ADDSUBL and ADDSUBX while DD = 1 (U2, U6) -/

/-- The operations with a second result that take no two-address format while DD = 1 (U6). -/
theorem aluOf_twoAddress {s : State} {b : Binding} (hdd : s.dd = true) (h : b.three = false) :
    ∀ op ∈ [Op.addsub, .addsubl, .addsubx], aluOf op s b = .refused .twoAddressDD1 := by
  simp [aluOf, aluAddsub, aluAddsubl, aluAddsubx, hdd, h]

/-- ADDSUB writes a pair while DD = 1, so its destination is even (U2). -/
theorem aluAddsub_odd {s : State} {b : Binding} (hdd : s.dd = true) (hthree : b.three = true)
    (hodd : b.dst.getLsbD 0 = true) : aluAddsub s b = .refused .oddRegister := by
  simp [aluAddsub, hdd, hthree, isEven, hodd]

/-- Settles O60: the combination rules stop format 8, alone and in a pair, and the operations refuse
their operands in every format; only in format 1 a false condition leaves the refusal out. -/
theorem refusedCombinations : Obligations.RefusedCombinations := by
  intro cc m s1 s2 d i1 i2 s wide
  have hwide : ∀ op ∈ Op.cvfe :: wide, clashesWithY op = true ∧ op ≠ .nop := by
    simp only [wide]
    decide
  refine ⟨fun fr h1 h2 => ?asrle, fun fr hr => ⟨?insl, fun h1 h2 => ?inslPair⟩,
    fun fr hy hdd op hop => ⟨?y, fun h1 => ?yPair⟩, fun x y z hdd op hop => ?twoAddress,
    fun hdd hodd => ⟨?odd1, fun fr => ?odd8⟩, fun hdd h1 hodd fr => ?oddPair⟩
  case asrle =>
    refine exec_frameInstr_of_stop ?_
    rw [h1, h2]
    rfl
  case insl => exact exec_f8_of_stop (op := .insl) nofun (frameStop_insl nofun hr)
  case inslPair =>
    refine exec_frameInstr_of_stop ?_
    rw [h1]
    exact frameStop_insl h2 hr
  case y =>
    obtain ⟨hclash, hnop⟩ := hwide op hop
    exact exec_f8_of_stop hnop (frameStop_yTransfer hclash hy hdd)
  case yPair =>
    obtain ⟨hclash, -⟩ := hwide op hop
    exact exec_frameInstr_of_stop (frameStop_yTransfer (h1 ▸ hclash) hy hdd)
  case twoAddress =>
    obtain ⟨-, hnop⟩ := hwide op (List.mem_cons_of_mem _ hop)
    have hrun (f : Form) : exec (instrOf op f) s = runForm op (aluOf op) f s :=
      exec_of_parts _ op f s (partsOf_instrOf hnop f)
    rw [hrun, hrun, hrun, runForm, runForm, runForm, aluOf_twoAddress hdd rfl op hop]
    exact ⟨rfl, rfl, rfl⟩
  case odd1 =>
    have hrun : exec (.addsub (.f1 cc s1 s2 d)) s
        = finish s 1 (guarded (s.holds cc) (aluAddsub s (.threeAddr (.ofOpnd s1) s2 d false))) :=
      rfl
    rw [hrun, finish_guarded, aluAddsub_odd hdd rfl hodd]
    rfl
  case odd8 =>
    exact runFrame_of_refused (frameStop_of_dd nofun hdd) (aluAddsub_odd hdd rfl hodd)
  case oddPair =>
    rw [exec_frameInstr, runPair, part1, h1]
    exact runFrame_of_refused (frameStop_of_dd nofun hdd) (aluAddsub_odd hdd rfl hodd)

end Sys2Proof.Machine
